-- ==== Sys2Proof/Word.lean ====
section
/-! DEFINITION. The words of the DQ720 and the plainest arithmetic on them. -/

namespace Sys2Proof

/-- A byte of the control port, of a head link or of a burst. -/
abbrev Byte := BitVec 8
/-- A two-byte number, such as a multiframe number or a check. -/
abbrev Word16 := BitVec 16
/-- A four-byte number: a unit id, a terminal id or a head serial number (R172). -/
abbrev Word32 := BitVec 32

/-- The number of a radio head, in quay order. -/
abbrev HeadNo := Fin 12
/-- The number of a crane link. -/
abbrev LinkNo := Fin 24
/-- The number of a slot of a frame. -/
abbrev SlotNo := Fin 24
/-- A table index of the reefer unit table. -/
abbrev UnitNo := Fin 1024

/-- One more on a counter of range 0..65535 that holds at 65535. -/
def bump (n : Nat) : Nat := min (n + 1) 65535

/-- `v` with entry `i` replaced. -/
def put {α : Type} {n : Nat} (v : Vector α n) (i : Fin n) (a : α) : Vector α n := v.set i.1 a i.2

@[simp] theorem get_put_same {α : Type} {n : Nat} (v : Vector α n) (i : Fin n) (a : α) :
    (put v i a).get i = a := by
  simp [put, Vector.get_eq_getElem]

@[simp] theorem get_put_other {α : Type} {n : Nat} (v : Vector α n) {i j : Fin n} (a : α)
    (h : i ≠ j) : (put v i a).get j = v.get j := by
  have h' : i.1 ≠ j.1 := fun e => h (Fin.ext e)
  simp [put, Vector.get_eq_getElem, h']

theorem get_put {α : Type} {n : Nat} (v : Vector α n) (i j : Fin n) (a : α) :
    (put v i a).get j = if i = j then a else v.get j := by
  by_cases h : i = j
  · subst h; simp
  · simp [h]

end Sys2Proof
end

