-- ==== Sys2Proof/Config.lean ====
section
/-! DEFINITION. What the part fixes: its capacities (R170), limits, codes, and the one value the manual leaves
open. -/

namespace Sys2Proof.Config

/-- Entries of the command pool (R81, R170). -/
def poolEntries : Nat := 512
/-- Entries one command list may hold (R81). -/
def listLimit : Nat := 64
/-- Places of the ack queue (R149). -/
def ackCapacity : Nat := 32
/-- Places of the report queue (R151). -/
def reportCapacity : Nat := 256
/-- Places of the alarm queue (R154). -/
def alarmCapacity : Nat := 32
/-- Places of the outbound queue (R165). -/
def outCapacity : Nat := 64
/-- Places of the inbound buffer (R161). -/
def inCapacity : Nat := 2
/-- Acknowledgements a beacon carries at most (R6, R150). -/
def beaconAcks : Nat := 10
/-- Frames a drain may last (R32, R33). -/
def drainFrames : Nat := 256
/-- The sync byte of control-port frames and of head link messages (R159, R177). -/
def sync : Byte := 0xC3#8
/-- The largest frame length (R159, R170). -/
def largestFrame : Nat := 1020
/-- The largest burst length or byte count of a head link message (R177). -/
def largestBurst : Nat := 64

/-- FREE VALUE (log entry 2): the pattern with which a returned test pattern is compared when the link's test began
after the down burst of the exchange was composed, so that the frame has no test pattern (R97, R99). The argument
is how many free values were taken before. -/
opaque freePattern : Nat → BitVec 64

end Sys2Proof.Config
end

