-- ==== Sys2Proof/Syntax.lean ====
section
/-! DEFINITION. The commands of the DQ720: the host's commands with their body fields as carried (R173, R174), and
one constructor of `Instr` for each row of spec/opcode_table.json. -/

namespace Sys2Proof

/-- The values of one command entry as CRANE APPEND and CRANE SPLICE carry them (R173). -/
structure EntryVals where
  hostTag : Word16
  gantry : Word16
  trolley : Word16
  hoist : Word16
  spreader : Byte
  endOfMove : Bool
  deriving DecidableEq, Repr

/-- One edit of PLAN STAGE as carried: edit code, object, 24-bit value (R174). -/
structure PlanEdit where
  code : Byte
  object : Byte
  value : BitVec 24
  deriving DecidableEq, Repr

/-- How UNIT QUERY, UNIT RELEASE and ALARM ACK name an entry (R174). -/
inductive EntryName where
  | index (n : Word32)
  | unitId (id : Word32)
  deriving DecidableEq, Repr

/-- The filter setting of FILTER SET as carried (R124, R174). -/
structure FilterVals where
  filter : Byte
  enabled : Bool
  pattern : Word32
  action : Byte
  profile : Byte
  ownMask : Word32
  deriving DecidableEq, Repr

/-- A command of the host, with the fields of its body as carried; `Option` marks a field with a presence bit
(R173, R174). -/
inductive HostCmd where
  | pollEvents
  | notifySet (flags : Word16)
  | identify
  | quietReset
  | planStage (restart : Bool) (edits : List PlanEdit)
  | planCommit
  | planQuery
  | mapQuery
  | headRestore (head : Byte)
  | headRetire (head : Byte)
  | headQuery (head : Byte)
  | coverSet (filter hysteresis trigger weight stop : Option Byte)
  | craneOpen (link : Byte) (terminal : Word32) (head period slot : Byte) (interlock : Word16) (lowMark : Byte)
  | craneClose (link : Byte)
  | craneMode (link mode : Byte)
  | craneQuery (link : Byte)
  | craneAppend (link : Byte) (entries : List EntryVals)
  | craneSplice (link : Byte) (entries : List EntryVals)
  | craneFlush (link : Byte)
  | craneInterlock (link : Byte) (word : Word16)
  | craneTest (link : Byte) (exchanges : Word16)
  | craneRecover (link head : Byte)
  | craneMove (link head : Byte)
  | quayHold (code : Byte)
  | filterSet (mask : Option Word32) (setting : Option FilterVals)
  | profileSet (profile : Byte) (report forward : Option Word16) (deadband excursion attempts : Option Byte)
      (gone : Option Word16)
  | unitQuery (entry : EntryName)
  | unitRelease (entry : EntryName)
  | alarmAck (entry : EntryName) (kinds : Byte)
  | registryQuery
  | reportSet (threshold : Word16)
  | reportQuery
  | fetchReports (count : Byte)
  | fetchAlarms (count : Byte)
  deriving DecidableEq, Repr

/-- The commands and events of spec/opcode_table.json, one constructor for each row. A host command carries its tag
and its body fields. -/
inductive Instr where
  | hardReset
  | resetnRise
  | frameStart
  | unitBecomesPolling (unit : UnitNo)
  | unitBecomesSilentByAge (unit : UnitNo)
  | unitBecomesGone (unit : UnitNo)
  | slotStart
  | headReturn (head : HeadNo) (mf : Word16) (frame slot result level : Byte) (bytes : List Byte)
  | headStatusRecord (head : HeadNo) (serial : Word32) (fault : Bool)
  | headLinkUp (head : HeadNo) (serial : Word32) (fault : Bool)
  | headLinkGap (head : HeadNo)
  | slotClose
  | headMissedAbsent (head : HeadNo)
  | drainExpiry (head : HeadNo)
  | recoveryComplete (link : LinkNo)
  | handoverAbandon (link : LinkNo)
  | testComplete (link : LinkNo) (differing : Fin 65)
  | handoverStart (link : LinkNo)
  | pollAttemptsExhausted (unit : UnitNo)
  | holdinChange (level : Bool)
  | frameReceived (kind tag : Byte) (body : List Byte) (check : Word16)
  | frameGap
  | unknownCommand (tag kind : Byte) (body : List Byte)
  | messageTransmitted
  | pollEvents (tag : Byte)
  | notifySet (tag : Byte) (flags : Word16)
  | identify (tag : Byte)
  | quietReset (tag : Byte)
  | planStage (tag : Byte) (restart : Bool) (edits : List PlanEdit)
  | planCommit (tag : Byte)
  | planQuery (tag : Byte)
  | mapQuery (tag : Byte)
  | headRestore (tag head : Byte)
  | headRetire (tag head : Byte)
  | headQuery (tag head : Byte)
  | coverSet (tag : Byte) (filter hysteresis trigger weight stop : Option Byte)
  | craneOpen (tag link : Byte) (terminal : Word32) (head period slot : Byte) (interlock : Word16) (lowMark : Byte)
  | craneClose (tag link : Byte)
  | craneMode (tag link mode : Byte)
  | craneQuery (tag link : Byte)
  | craneAppend (tag link : Byte) (entries : List EntryVals)
  | craneSplice (tag link : Byte) (entries : List EntryVals)
  | craneFlush (tag link : Byte)
  | craneInterlock (tag link : Byte) (word : Word16)
  | craneTest (tag link : Byte) (exchanges : Word16)
  | craneRecover (tag link head : Byte)
  | craneMove (tag link head : Byte)
  | quayHold (tag code : Byte)
  | filterSet (tag : Byte) (mask : Option Word32) (setting : Option FilterVals)
  | profileSet (tag profile : Byte) (report forward : Option Word16) (deadband excursion attempts : Option Byte)
      (gone : Option Word16)
  | unitQuery (tag : Byte) (entry : EntryName)
  | unitRelease (tag : Byte) (entry : EntryName)
  | alarmAck (tag : Byte) (entry : EntryName) (kinds : Byte)
  | registryQuery (tag : Byte)
  | reportSet (tag : Byte) (threshold : Word16)
  | reportQuery (tag : Byte)
  | fetchReports (tag count : Byte)
  | fetchAlarms (tag count : Byte)
  | controlPortByteReceived (byte : Byte) (stopBit : Bool)
  | headLinkByteReceived (head : HeadNo) (byte : Byte)
  deriving DecidableEq, Repr

end Sys2Proof
end

