-- ==== Sys2Proof/WellFormed.lean ====
section
/-! DEFINITION. Which commands are well formed: the lengths that R159, R163, R173, R174 and R177 allow. -/

namespace Sys2Proof

/-- The body lengths R173 and R174 allow for a command kind; no length for a kind that is no command (R163). -/
def kindLengthOk (kind : Byte) (len : Nat) : Bool :=
  match kind.toNat with
  | 0x01 | 0x03 | 0x04 | 0x11 | 0x12 | 0x13 | 0x45 | 0x49 => len == 0
  | 0x02 | 0x32 | 0x39 | 0x3A | 0x48 => len == 2
  | 0x10 => decide (1 ≤ len) && (len - 1) % 5 == 0 && decide ((len - 1) / 5 ≤ 48)
  | 0x20 | 0x21 | 0x22 | 0x31 | 0x33 | 0x36 | 0x3B | 0x4A | 0x4B => len == 1
  | 0x28 | 0x44 => len == 6
  | 0x30 | 0x41 => len == 11
  | 0x34 | 0x35 => decide (11 ≤ len) && (len - 1) % 10 == 0 && decide ((len - 1) / 10 ≤ 16)
  | 0x37 | 0x38 => len == 3
  | 0x40 => len == 17
  | 0x42 | 0x43 => len == 5
  | _ => false

/-- A host command that a frame can carry: 0 to 48 plan edits (R8), 1 to 16 command entries (R82, R83). -/
def HostCmd.wf : HostCmd → Bool
  | .planStage _ edits => decide (edits.length ≤ 48)
  | .craneAppend _ entries => decide (1 ≤ entries.length) && decide (entries.length ≤ 16)
  | .craneSplice _ entries => decide (1 ≤ entries.length) && decide (entries.length ≤ 16)
  | _ => true

/-- A well-formed command of the table. -/
def Instr.wf : Instr → Bool
  | .headReturn _ _ _ _ _ _ bytes => decide (bytes.length ≤ Config.largestBurst)
  | .frameReceived _ _ body _ => decide (body.length + 2 ≤ Config.largestFrame)
  | .unknownCommand _ kind body => decide (body.length + 2 ≤ Config.largestFrame) && !kindLengthOk kind body.length
  | .planStage _ restart edits => (HostCmd.planStage restart edits).wf
  | .craneAppend _ link entries => (HostCmd.craneAppend link entries).wf
  | .craneSplice _ link entries => (HostCmd.craneSplice link entries).wf
  | _ => true

end Sys2Proof
end

