-- ==== Sys2Proof/Decode.lean ====
section
/-! DEFINITION. Byte packing, the check of R172, the frames of host commands (R173, R174), and the host's
`decodeTableWord`. -/

namespace Sys2Proof

/-! ## Packing (R172: most significant byte first) -/

/-- A two-byte number, most significant byte first. -/
def be16 (w : Word16) : List Byte := [w.extractLsb' 8 8, w.extractLsb' 0 8]

/-- A three-byte number, most significant byte first. -/
def be24 (w : BitVec 24) : List Byte := [w.extractLsb' 16 8, w.extractLsb' 8 8, w.extractLsb' 0 8]

/-- A four-byte number, most significant byte first. -/
def be32 (w : Word32) : List Byte :=
  [w.extractLsb' 24 8, w.extractLsb' 16 8, w.extractLsb' 8 8, w.extractLsb' 0 8]

/-- An eight-byte number, most significant byte first. -/
def be64 (w : BitVec 64) : List Byte := be32 (w.extractLsb' 32 32) ++ be32 (w.extractLsb' 0 32)

/-- The two-byte number in two bytes. -/
def rd16 (a b : Byte) : Word16 := a ++ b

/-- The three-byte number in three bytes. -/
def rd24 (a b c : Byte) : BitVec 24 := (a ++ b : BitVec 16) ++ c

/-- The four-byte number in four bytes. -/
def rd32 (a b c d : Byte) : Word32 := (a ++ b : BitVec 16) ++ (c ++ d : BitVec 16)

/-- A byte with bit 0 given and the other bits 0. -/
def bit0 (b : Bool) : Byte := if b then 1#8 else 0#8

/-- A byte from its number. -/
def byte (n : Nat) : Byte := BitVec.ofNat 8 n

/-! ## The check (R172, section 9.1) -/

/-- One shift of the check register: generator 0x1021. -/
def crcShift (c : Word16) : Word16 := if c.msb then (c <<< 1) ^^^ 0x1021#16 else c <<< 1

/-- The check register after one more byte, taken most significant bit first. -/
def crcByte (c : Word16) (b : Byte) : Word16 :=
  crcShift (crcShift (crcShift (crcShift (crcShift (crcShift (crcShift (crcShift
    (c ^^^ (b ++ 0#8)))))))))

/-- The CRC-16 of R172: initial value all ones, no final inversion. -/
def crc16 (bytes : List Byte) : Word16 := bytes.foldl crcByte 0xFFFF#16

/-- `bytes` followed by their check. -/
def withCheck (bytes : List Byte) : List Byte := bytes ++ be16 (crc16 bytes)

/-! ## Frames of host commands -/

/-- A frame as the inbound buffer holds it: kind, tag and body (section 9.1, R161). -/
structure Frame where
  kind : Byte
  tag : Byte
  body : List Byte
  deriving DecidableEq, Repr

/-- The bytes the check of a frame covers: length, kind, tag and body (section 9.1). -/
def Frame.covered (f : Frame) : List Byte :=
  be16 (BitVec.ofNat 16 (f.body.length + 2)) ++ [f.kind, f.tag] ++ f.body

/-- The check a good frame carries (R159). -/
def Frame.check (f : Frame) : Word16 := crc16 f.covered

/-- The bytes of a whole frame on the line (section 9.1). -/
def Frame.bytes (f : Frame) : List Byte := [Config.sync] ++ f.covered ++ be16 f.check

/-- The kind byte of a command (R173). -/
def HostCmd.kind : HostCmd → Byte
  | .pollEvents => 0x01#8
  | .notifySet _ => 0x02#8
  | .identify => 0x03#8
  | .quietReset => 0x04#8
  | .planStage _ _ => 0x10#8
  | .planCommit => 0x11#8
  | .planQuery => 0x12#8
  | .mapQuery => 0x13#8
  | .headRestore _ => 0x20#8
  | .headRetire _ => 0x21#8
  | .headQuery _ => 0x22#8
  | .coverSet _ _ _ _ _ => 0x28#8
  | .craneOpen _ _ _ _ _ _ _ => 0x30#8
  | .craneClose _ => 0x31#8
  | .craneMode _ _ => 0x32#8
  | .craneQuery _ => 0x33#8
  | .craneAppend _ _ => 0x34#8
  | .craneSplice _ _ => 0x35#8
  | .craneFlush _ => 0x36#8
  | .craneInterlock _ _ => 0x37#8
  | .craneTest _ _ => 0x38#8
  | .craneRecover _ _ => 0x39#8
  | .craneMove _ _ => 0x3A#8
  | .quayHold _ => 0x3B#8
  | .filterSet _ _ => 0x40#8
  | .profileSet _ _ _ _ _ _ _ => 0x41#8
  | .unitQuery _ => 0x42#8
  | .unitRelease _ => 0x43#8
  | .alarmAck _ _ => 0x44#8
  | .registryQuery => 0x45#8
  | .reportSet _ => 0x48#8
  | .reportQuery => 0x49#8
  | .fetchReports _ => 0x4A#8
  | .fetchAlarms _ => 0x4B#8

/-- The ten bytes of one command entry (R173). -/
def EntryVals.bytes (e : EntryVals) : List Byte :=
  be16 e.hostTag ++ be16 e.gantry ++ be16 e.trolley ++ be16 e.hoist ++ [e.spreader, bit0 e.endOfMove]

/-- The five bytes of one plan edit (R174). -/
def PlanEdit.bytes (e : PlanEdit) : List Byte := [e.code, e.object] ++ be24 e.value

/-- The selector and number that name an entry (R174). -/
def EntryName.bytes : EntryName → List Byte
  | .index n => 0#8 :: be32 n
  | .unitId id => 1#8 :: be32 id

/-- A presence bit at place `i`. -/
def presence {α : Type} (i : Nat) (v : Option α) : Byte := if v.isSome then BitVec.twoPow 8 i else 0#8

/-- An optional byte as carried: 0 where it is absent. -/
def optByte (v : Option Byte) : List Byte := [v.getD 0#8]

/-- An optional two-byte number as carried: 0 where it is absent. -/
def optWord (v : Option Word16) : List Byte := be16 (v.getD 0#16)

/-- The filter setting of FILTER SET as carried (R174). -/
def FilterVals.bytes (v : FilterVals) : List Byte :=
  [v.filter, bit0 v.enabled] ++ be32 v.pattern ++ [v.action, v.profile] ++ be32 v.ownMask

/-- The body of a command's frame (R173, R174). -/
def HostCmd.body : HostCmd → List Byte
  | .notifySet flags => be16 flags
  | .planStage restart edits => bit0 restart :: edits.flatMap PlanEdit.bytes
  | .headRestore h | .headRetire h | .headQuery h => [h]
  | .coverSet k hy t w st =>
      (presence 0 k ||| presence 1 hy ||| presence 2 t ||| presence 3 w ||| presence 4 st) ::
        (optByte k ++ optByte hy ++ optByte t ++ optByte w ++ optByte st)
  | .craneOpen l term h p sl il m => [l] ++ be32 term ++ [h, p, sl] ++ be16 il ++ [m]
  | .craneClose l | .craneQuery l | .craneFlush l => [l]
  | .craneMode l m => [l, m]
  | .craneAppend l es | .craneSplice l es => l :: es.flatMap EntryVals.bytes
  | .craneInterlock l w => l :: be16 w
  | .craneTest l n => l :: be16 n
  | .craneRecover l h | .craneMove l h => [l, h]
  | .quayHold c => [c]
  | .filterSet mask v =>
      (presence 0 mask ||| presence 1 v) ::
        (be32 (mask.getD 0#32) ++ (v.getD ⟨0#8, false, 0#32, 0#8, 0#8, 0#32⟩).bytes)
  | .profileSet p r f d e a g =>
      [p, presence 0 r ||| presence 1 f ||| presence 2 d ||| presence 3 e ||| presence 4 a ||| presence 5 g] ++
        optWord r ++ optWord f ++ optByte d ++ optByte e ++ optByte a ++ optWord g
  | .unitQuery n | .unitRelease n => n.bytes
  | .alarmAck n k => n.bytes ++ [k]
  | .reportSet n => be16 n
  | .fetchReports n | .fetchAlarms n => [n]
  | _ => []

/-- The frame that carries command `c` under `tag`. -/
def HostCmd.frame (tag : Byte) (c : HostCmd) : Frame := ⟨c.kind, tag, c.body⟩

/-- The command entries in the bytes after the link byte of CRANE APPEND and CRANE SPLICE (R173). -/
def readEntries : List Byte → Option (List EntryVals)
  | [] => some []
  | t1 :: t0 :: g1 :: g0 :: r1 :: r0 :: h1 :: h0 :: sp :: e :: rest =>
      (readEntries rest).map (⟨rd16 t1 t0, rd16 g1 g0, rd16 r1 r0, rd16 h1 h0, sp, e.getLsbD 0⟩ :: ·)
  | _ => none

/-- The edits in the bytes after the restart byte of PLAN STAGE (R174). -/
def readEdits : List Byte → Option (List PlanEdit)
  | [] => some []
  | c :: o :: a :: b :: d :: rest => (readEdits rest).map (⟨c, o, rd24 a b d⟩ :: ·)
  | _ => none

/-- The entry named by a selector byte and a number (R174). -/
def readName (sel : Byte) (n : Word32) : EntryName := if sel = 0#8 then .index n else .unitId n

/-- A field whose presence bit is clear is ignored, whatever it holds (R174). -/
def present {α : Type} (flags : Byte) (i : Nat) (v : α) : Option α := if flags.getLsbD i then some v else none

/-- The command that a body of allowed length spells under a kind. -/
def readBody (kind : Byte) (body : List Byte) : Option HostCmd :=
  match kind.toNat, body with
  | 0x01, [] => some .pollEvents
  | 0x02, [a, b] => some (.notifySet (rd16 a b))
  | 0x03, [] => some .identify
  | 0x04, [] => some .quietReset
  | 0x10, r :: edits => (readEdits edits).map (.planStage (r.getLsbD 0))
  | 0x11, [] => some .planCommit
  | 0x12, [] => some .planQuery
  | 0x13, [] => some .mapQuery
  | 0x20, [h] => some (.headRestore h)
  | 0x21, [h] => some (.headRetire h)
  | 0x22, [h] => some (.headQuery h)
  | 0x28, [p, k, hy, t, w, st] =>
      some (.coverSet (present p 0 k) (present p 1 hy) (present p 2 t) (present p 3 w) (present p 4 st))
  | 0x30, [l, t3, t2, t1, t0, h, p, sl, i1, i0, m] =>
      some (.craneOpen l (rd32 t3 t2 t1 t0) h p sl (rd16 i1 i0) m)
  | 0x31, [l] => some (.craneClose l)
  | 0x32, [l, m] => some (.craneMode l m)
  | 0x33, [l] => some (.craneQuery l)
  | 0x34, l :: es => (readEntries es).map (.craneAppend l)
  | 0x35, l :: es => (readEntries es).map (.craneSplice l)
  | 0x36, [l] => some (.craneFlush l)
  | 0x37, [l, a, b] => some (.craneInterlock l (rd16 a b))
  | 0x38, [l, a, b] => some (.craneTest l (rd16 a b))
  | 0x39, [l, h] => some (.craneRecover l h)
  | 0x3A, [l, h] => some (.craneMove l h)
  | 0x3B, [c] => some (.quayHold c)
  | 0x40, [p, m3, m2, m1, m0, f, en, p3, p2, p1, p0, ac, pr, o3, o2, o1, o0] =>
      some (.filterSet (present p 0 (rd32 m3 m2 m1 m0))
        (present p 1 ⟨f, en.getLsbD 0, rd32 p3 p2 p1 p0, ac, pr, rd32 o3 o2 o1 o0⟩))
  | 0x41, [n, p, r1, r0, f1, f0, d, e, a, g1, g0] =>
      some (.profileSet n (present p 0 (rd16 r1 r0)) (present p 1 (rd16 f1 f0)) (present p 2 d) (present p 3 e)
        (present p 4 a) (present p 5 (rd16 g1 g0)))
  | 0x42, [s, n3, n2, n1, n0] => some (.unitQuery (readName s (rd32 n3 n2 n1 n0)))
  | 0x43, [s, n3, n2, n1, n0] => some (.unitRelease (readName s (rd32 n3 n2 n1 n0)))
  | 0x44, [s, n3, n2, n1, n0, k] => some (.alarmAck (readName s (rd32 n3 n2 n1 n0)) k)
  | 0x45, [] => some .registryQuery
  | 0x48, [a, b] => some (.reportSet (rd16 a b))
  | 0x49, [] => some .reportQuery
  | 0x4A, [n] => some (.fetchReports n)
  | 0x4B, [n] => some (.fetchAlarms n)
  | _, _ => none

/-- R163: the kind and the body length are tested first; a frame that passes is the command its body spells. -/
def decodeCommand (kind : Byte) (body : List Byte) : Option HostCmd :=
  if kindLengthOk kind body.length then readBody kind body else none

/-- R162: the kind is posted, which is the case for CRANE APPEND alone. -/
def Frame.posted (f : Frame) : Bool := f.kind == 0x34#8

/-! ## The host's word decoder -/

/-- The command a word spells by the bits of spec/opcode_table.json. The table gives bits to no row (its rows are
commands and events, not words), so no word spells one (log entry 17). -/
def decodeTableWord (_nbits _w : Nat) : Option Instr := none

end Sys2Proof
end

