-- ==== Sys2Proof/Machine/State.lean ====
section
/-! DEFINITION. The state of the DQ720, block by block (00_scope.md 1.2), and the state right after hard reset. -/

namespace Sys2Proof.Machine

/-! ## Air time and plans (Chapter 1) -/

/-- A point in air time (R3, R172). -/
structure Time where
  mf : Word16
  frame : Fin 16
  slot : SlotNo
  deriving DecidableEq, Repr

/-- Multiframe 0, frame 0, slot 0. -/
def Time.zero : Time := ⟨0#16, 0, 0⟩

/-- The role of a reservation (R62). -/
inductive Role where
  | primary
  | target
  deriving DecidableEq, Repr

/-- A crane link's period in frames (R60). -/
inductive Period where
  | one
  | two
  | four
  deriving DecidableEq, Repr

/-- The period as a number of frames: 1, 2 or 4. -/
def Period.frames : Period → Nat
  | .one => 1
  | .two => 2
  | .four => 4

/-- Where and when a reservation lies: head, slot, period and phase (R62). -/
structure Place where
  head : HeadNo
  slot : SlotNo
  period : Period
  phase : Nat
  deriving DecidableEq, Repr

/-- The reservations one link holds in the reservation table: at most one in each role (R62). -/
structure Held where
  primary : Option Place
  target : Option Place
  deriving DecidableEq, Repr

/-- Poll order (R7). -/
inductive PollOrder where
  | oldest
  | lowestIndex
  deriving DecidableEq, Repr

/-- A plan (R7). The slot-group entry of slot 0 stands at 0 and is read by nothing; bit `s` of a crane-allowed set
stands for slot `s`. -/
structure Plan where
  headGroup : Vector (Fin 3) 12
  slotGroup : Vector (Fin 3) 24
  allowed : Vector (BitVec 24) 12
  maxPolls : Fin 9
  order : PollOrder
  deriving DecidableEq, Repr

/-- The default plan (R7). -/
def Plan.default : Plan where
  headGroup := Vector.ofFn fun h => ⟨h.1 % 3, Nat.mod_lt _ (by decide)⟩
  slotGroup := Vector.ofFn fun s => ⟨(s.1 - 1) % 3, Nat.mod_lt _ (by decide)⟩
  allowed := Vector.replicate 12 0xFFFFFE#24
  maxPolls := 2
  order := .oldest

/-- The last plan result (R10). -/
inductive PlanResult where
  | none
  | applied (mf : Word16)
  | groupSpacing (mf : Word16) (a b : HeadNo)
  | reservationConflict (mf : Word16) (link : LinkNo)
  deriving DecidableEq, Repr

/-- A cell of the slot map with the object it concerns (R4, R15). -/
inductive Cell where
  | beacon
  | crane (link : LinkNo) (role : Role)
  | listen (link : LinkNo)
  | poll (unit : UnitNo) (id : Word32)
  | contention
  | quiet
  | off
  deriving DecidableEq, Repr

/-- The slot map of a frame: for each head, the cell of each slot. -/
abbrev SlotMap := Vector (Vector Cell 24) 12

/-- An acknowledgement: unit id and sequence number (R128). -/
structure Ack where
  unitId : Word32
  seq : BitVec 4
  deriving DecidableEq, Repr

/-- The beacon content of a frame (R6). -/
structure Beacon where
  mf : Word16
  frame : Fin 16
  hold : Bool
  exponent : Fin 8
  joinMask : BitVec 12
  acks : List Ack
  deriving DecidableEq, Repr

/-- The Frame Scheduler's state (R23). -/
structure FrameScheduler where
  now : Time
  /-- Air time runs: the first frame start after RESETN's rise has been taken (R2). -/
  airStarted : Bool
  /-- The start of the current slot has been taken (R4, R21). -/
  slotStarted : Bool
  active : Plan
  staged : Plan
  ready : Bool
  last : PlanResult
  resv : Vector Held 24
  map : SlotMap
  beacon : Beacon
  deriving DecidableEq, Repr

/-! ## Radio heads (Chapter 2) -/

/-- A head's service state (R25). -/
inductive HeadState where
  | absent
  | off
  | on
  | draining
  | fault
  deriving DecidableEq, Repr

/-- How a head's last drain ended (R25). -/
inductive DrainOutcome where
  | none
  | completed
  | failed (remaining : Nat)
  | cancelled
  deriving DecidableEq, Repr

/-- A head record (R25), with the out-of-service mark of R29. -/
structure HeadRecord where
  state : HeadState
  restorePending : Bool
  serial : Option Word32
  statusSeen : Bool
  missed : Nat
  linkUp : Nat
  drainTimer : Nat
  drainOutcome : DrainOutcome
  offered : Nat
  garbled : Nat
  offeredLast : Nat
  garbledLast : Nat
  lateReturns : Nat
  /-- The head left service in the current frame (R29). -/
  outOfService : Bool
  deriving DecidableEq, Repr

/-- A head record after hard reset (R25). -/
def HeadRecord.reset : HeadRecord where
  state := .absent
  restorePending := false
  serial := none
  statusSeen := false
  missed := 0
  linkUp := 0
  drainTimer := 0
  drainOutcome := .none
  offered := 0
  garbled := 0
  offeredLast := 0
  garbledLast := 0
  lateReturns := 0
  outOfService := false

/-- The result of a return (R40). -/
inductive RetResult where
  | decoded
  | garbled
  | nothing
  deriving DecidableEq, Repr

/-- A return as it enters the slot record (R40). -/
structure Ret where
  result : RetResult
  level : Byte
  bytes : List Byte
  deriving DecidableEq, Repr

/-- Where an entry of a slot record comes from (R41). -/
inductive Source where
  | head
  | deadline
  | outOfService
  deriving DecidableEq, Repr

/-- A head's place in the collection of returns of a slot (R38, R39): its cell at the slot start, whether an order
awaits a return, the return that filled the entry, and whether the head is out of service (R29). -/
structure Entry where
  cell : Cell
  awaited : Bool
  ret : Option Ret
  outOfService : Bool
  deriving DecidableEq, Repr

/-- What a multiframe boundary made of a slot still in progress (R42, R155): the heads whose garbled result it counted,
as bits, and the backoff exponent it found. -/
structure Rolled where
  counted : BitVec 12
  exponent : Fin 8
  deriving DecidableEq, Repr

/-- The slot in progress. `stale` marks slot 23 of the frame before the present one, whose close is still to be
taken when the next frame start was taken first (R27, R86); `rolled` stands where that start was a multiframe
boundary (log entry 20). -/
structure OpenSlot where
  time : Time
  entries : Vector Entry 12
  stale : Bool
  rolled : Option Rolled
  deriving DecidableEq, Repr

/-- A slot order (R38, R177). -/
structure SlotOrder where
  time : Time
  kind : Byte
  burst : List Byte
  deriving DecidableEq, Repr

/-- The Head Port Array's state. -/
structure HeadPorts where
  heads : Vector HeadRecord 12
  openSlot : Option OpenSlot
  /-- The slot order sent to each head at the latest slot start; none where none was sent. -/
  orders : Vector (Option SlotOrder) 12
  /-- The bytes of the head link message in reception, from its sync byte on; empty while hunting (R177). -/
  rx : Vector (List Byte) 12
  deriving DecidableEq, Repr

/-! ## Crane links (Chapters 4 to 6) -/

/-- A link's mode (R60). -/
inductive Mode where
  | closed
  | standby
  | service
  | test
  deriving DecidableEq, Repr

/-- A link's health (R101). -/
inductive Health where
  | good
  | warned
  | degraded
  | lost
  | recovering
  deriving DecidableEq, Repr

/-- A command entry (R80). -/
structure CraneEntry where
  hostTag : Word16
  gantry : Int
  trolley : Int
  hoist : Int
  spreader : Fin 16
  endOfMove : Bool
  clamped : Bool
  deriving DecidableEq, Repr

/-- A crane's status as its up burst carries it (R95); the echo is the check of the down burst it answers. -/
structure CraneStatus where
  eStop : Bool
  overload : Bool
  alarm : Byte
  gantry : Word16
  trolley : Word16
  hoist : Int
  echo : Word16
  deriving DecidableEq, Repr

/-- An up burst whose check is valid (R95, R175). -/
structure UpBurst where
  terminal : Word32
  status : CraneStatus
  pattern : BitVec 64
  deriving DecidableEq, Repr

/-- A test result (R72, R99). -/
structure TestResult where
  exchanges : Nat
  bitErrors : Nat
  aborted : Bool
  deriving DecidableEq, Repr

/-- The progress of a running test, with its pattern register (R98). -/
structure TestProgress where
  target : Nat
  done : Nat
  bitErrors : Nat
  register : BitVec 15
  deriving DecidableEq, Repr

/-- The outcome counters of a link (R60, R97). -/
structure Outcomes where
  exchanges : Nat
  noReply : Nat
  badCheck : Nat
  wrongTerminal : Nat
  echoMismatch : Nat
  deriving DecidableEq, Repr

/-- All outcome counters 0. -/
def Outcomes.zero : Outcomes := ⟨0, 0, 0, 0, 0⟩

/-- A crane link record (R60). Its reservations and serving head are views of the reservation table. -/
structure Link where
  terminal : Word32
  mode : Mode
  openedAt : Option Time
  health : Health
  score : Nat
  recovery : Nat
  period : Period
  phase : Nat
  staged : Word16
  snapshot : Word16
  list : List CraneEntry
  held : Option CraneEntry
  lowMark : Nat
  farEnd : Bool
  latest : Option CraneStatus
  pendingAlarms : Nat
  alarmDrops : Nat
  postedErrors : Nat
  testResult : Option TestResult
  test : Option TestProgress
  outcomes : Outcomes
  deriving DecidableEq, Repr

/-- A crane link record after hard reset (R60). -/
def Link.reset : Link where
  terminal := 0#32
  mode := .closed
  openedAt := none
  health := .good
  score := 0
  recovery := 0
  period := .one
  phase := 0
  staged := 0#16
  snapshot := 0#16
  list := []
  held := none
  lowMark := 0
  farEnd := false
  latest := none
  pendingAlarms := 0
  alarmDrops := 0
  postedErrors := 0
  testResult := none
  test := none
  outcomes := Outcomes.zero

/-- The result of one CRANE cell, in the order of R94: the further the later. -/
inductive CellResult where
  | noReply
  | badCheck
  | wrongTerminal
  | echoMismatch
  | success
  deriving DecidableEq, Repr

/-- How far a result reached (R94, R97). -/
def CellResult.rank : CellResult → Nat
  | .noReply => 0
  | .badCheck => 1
  | .wrongTerminal => 2
  | .echoMismatch => 3
  | .success => 4

/-- A CRANE cell whose slot has started, with the check of its down burst (R86). -/
structure StartedCell where
  head : HeadNo
  slot : SlotNo
  role : Role
  check : Word16
  deriving DecidableEq, Repr

/-- A link's exchange state of one frame (R86), with the marks of R97 (settled), R110 (a TARGET cell of the present
DUAL has started) and R71 (the link was opened in the frame). -/
structure Exchange where
  started : List StartedCell
  /-- The consumption mark with its list-dry value. -/
  consumed : Option Bool
  /-- The pattern mark with the pattern drawn. -/
  pattern : Option (BitVec 64)
  best : Option CellResult
  firstUp : Option UpBurst
  targetStarted : Bool
  settled : Bool
  opened : Bool
  deriving DecidableEq, Repr

/-- The exchange state at a frame's start (R86). -/
def Exchange.empty : Exchange := ⟨[], none, none, none, none, false, false, false⟩

/-- The Crane Link Engine's state. -/
structure CraneEngine where
  links : Vector Link 24
  /-- Free entries of the command pool (R81). -/
  poolFree : Nat
  /-- The host part of quay hold (R91). -/
  hostHold : Bool
  /-- The links that contribute to quay stop (R107). -/
  contributions : BitVec 24
  /-- The level of QSTOP (R107). -/
  qstop : Bool
  exch : Vector Exchange 24
  /-- The exchange state of the frame before, kept while its slot 23 is open (R86). -/
  prevExch : Vector Exchange 24
  deriving DecidableEq, Repr

/-! ## Coverage (Chapters 3 and 6) -/

/-- The coverage settings (R44). -/
structure CoverSettings where
  filter : Nat
  hysteresis : Nat
  trigger : Nat
  weight : Nat
  stopOnLost : Bool
  deriving DecidableEq, Repr

/-- A handover state (R108). -/
inductive HandoverState where
  | settled
  | candidate
  | dual
  deriving DecidableEq, Repr

/-- A handover record (R46, R108). The left and right heads follow from the centre, the target head from the
reservation table. -/
structure Handover where
  centre : Option HeadNo
  leftQ : Option Nat
  centreQ : Option Nat
  rightQ : Option Nat
  candidate : Option HeadNo
  trigger : Nat
  state : HandoverState
  dual : Nat
  forced : Bool
  completed : Nat
  abandoned : Nat
  blocked : Nat
  deriving DecidableEq, Repr

/-- A handover record as CRANE OPEN creates it, centred on `h` (R46, R108). -/
def Handover.atOpen (h : HeadNo) : Handover where
  centre := some h
  leftQ := none
  centreQ := none
  rightQ := none
  candidate := none
  trigger := 0
  state := .settled
  dual := 0
  forced := false
  completed := 0
  abandoned := 0
  blocked := 0

/-- The Coverage Unit's state: the settings, and a handover record for each link that is not CLOSED (R46). -/
structure Coverage where
  settings : CoverSettings
  records : Vector (Option Handover) 24
  deriving DecidableEq, Repr

/-! ## Reefer Registry (Chapters 7 and 8) -/

/-- A filter's action (R123). -/
inductive FilterAction where
  | accept
  | reject
  deriving DecidableEq, Repr

/-- An acceptance filter (R123). The own mask is read for filters 6 and 7 alone. -/
structure AcceptFilter where
  enabled : Bool
  pattern : Word32
  action : FilterAction
  profile : Fin 4
  ownMask : Word32
  deriving DecidableEq, Repr

/-- A profile (R125). -/
structure Profile where
  report : Nat
  forward : Nat
  deadband : Nat
  excursion : Nat
  attempts : Nat
  gone : Nat
  deriving DecidableEq, Repr

/-- The state of a unit entry (R126). -/
inductive UnitState where
  | free
  | listed
  | polling
  | silent
  | gone
  deriving DecidableEq, Repr

/-- A unit's power state (section 8.1). -/
inductive Power where
  | on
  | off
  | defrost
  deriving DecidableEq, Repr

/-- The readings stored in an entry (section 8.1); the supply may be absent. -/
structure Readings where
  supply : Option Int
  ret : Int
  setpoint : Int
  power : Power
  alarm : Byte
  deriving DecidableEq, Repr

/-- The delivered snapshot (R147). -/
structure Snapshot where
  supply : Option Int
  setpoint : Int
  power : Power
  alarm : Byte
  mf : Word16
  deriving DecidableEq, Repr

/-- The kind of an alarm (R126). -/
inductive AlarmKind where
  | unit
  | excursion
  | silent
  | power
  deriving DecidableEq, Repr

/-- The bit of a kind in an alarm set (section 10.6). -/
def AlarmKind.bit : AlarmKind → BitVec 4
  | .unit => 1#4
  | .excursion => 2#4
  | .silent => 4#4
  | .power => 8#4

/-- An entry of the unit table (R126). The alarm sets have the bits of section 10.6. -/
structure UnitEntry where
  state : UnitState
  unitId : Word32
  serving : Option HeadNo
  profile : Fin 4
  lastSeq : BitVec 4
  lastHeard : Word16
  lastLevel : Byte
  attempts : Nat
  goneSince : Option Word16
  readings : Option Readings
  clamped : Bool
  sensorAbsent : Bool
  run : Nat
  live : BitVec 4
  latched : BitVec 4
  snapshot : Option Snapshot
  gapPending : Bool
  deriving DecidableEq, Repr

/-- A FREE entry (R126). -/
def UnitEntry.free : UnitEntry where
  state := .free
  unitId := 0#32
  serving := none
  profile := 0
  lastSeq := 0#4
  lastHeard := 0#16
  lastLevel := 0#8
  attempts := 0
  goneSince := none
  readings := none
  clamped := false
  sensorAbsent := false
  run := 0
  live := 0#4
  latched := 0#4
  snapshot := none
  gapPending := false

/-- The Reefer Registry's state. -/
structure Registry where
  mask : Word32
  filters : Vector AcceptFilter 8
  profiles : Vector Profile 4
  units : Vector UnitEntry 1024
  pollQueue : List UnitNo
  foreign : Nat
  stray : Nat
  refusedJoins : Nat
  outerFails : Nat
  deriving DecidableEq, Repr

/-- The kind of a report burst (R122). -/
inductive ReportKind where
  | join
  | periodic
  | polled
  deriving DecidableEq, Repr

/-- The readings of a report record: the power state as its code, the supply absent where none is held (R142,
R151). -/
structure RecordReadings where
  supply : Option Int
  ret : Int
  setpoint : Int
  power : Byte
  alarm : Byte
  deriving DecidableEq, Repr

/-- A report record (R151). -/
structure ReportRecord where
  unitId : Word32
  index : UnitNo
  kind : ReportKind
  seq : BitVec 4
  time : Time
  head : HeadNo
  level : Byte
  readings : RecordReadings
  clamped : Bool
  sensorAbsent : Bool
  suspect : Bool
  gap : Bool
  deriving DecidableEq, Repr

/-- An alarm record (R146). -/
structure AlarmRecord where
  unitId : Word32
  index : UnitNo
  kind : AlarmKind
  time : Time
  readings : Option Readings
  deriving DecidableEq, Repr

/-- The Report Unit's state (R157). -/
structure ReportUnit where
  acks : List Ack
  reports : List ReportRecord
  alarms : List AlarmRecord
  exponent : Fin 8
  lastOffered : Nat
  lastGarbled : Nat
  threshold : Nat
  ackLoss : Nat
  overflow : Nat
  alarmOverflow : Nat
  deriving DecidableEq, Repr

/-! ## Control Port (Chapter 9) -/

/-- The reason of a STATE refusal (R172). -/
inductive Reason where
  | noneGiven
  | linkOpen
  | terminalInUse
  | headState
  | linkClosed
  | health
  | headRequired
  | unplaced
  | handover
  | sameHead
  | notListed
  deriving DecidableEq, Repr

/-- One window head in the reply to CRANE QUERY (R58). -/
structure WindowHead where
  head : HeadNo
  quality : Option Nat
  others : Nat
  score : Option Int
  deriving DecidableEq, Repr

/-- The handover part of the reply to CRANE QUERY (R58, R75). -/
structure HandoverReport where
  centre : Option WindowHead
  left : Option WindowHead
  right : Option WindowHead
  candidate : Option HeadNo
  trigger : Nat
  threshold : Nat
  state : HandoverState
  target : Option HeadNo
  dual : Nat
  forced : Bool
  completed : Nat
  abandoned : Nat
  blocked : Nat
  deriving DecidableEq, Repr

/-- The body of an OK reply, as the owning rule of each command gives it. A command that may admit or release a
reservation names the slot in which it was taken, `taken` (R16, R162, log entry 39). -/
inductive ReplyBody where
  | empty
  /-- R167. -/
  | pollEvents (flags : BitVec 10) (crane listLow : BitVec 24) (head : BitVec 12) (plan : PlanResult)
      (frameErrors overruns malformed noticeDrops : Nat)
  /-- R168. -/
  | notifySet (enables : BitVec 10)
  /-- R170. -/
  | identify
  /-- R8. -/
  | planStage (staged : Plan) (ready : Bool)
  /-- R9. -/
  | planCommit (boundary : Word16)
  /-- R10. -/
  | planQuery (active staged : Plan) (ready : Bool) (mf : Word16) (frame : Fin 16) (last : PlanResult)
  /-- R22. -/
  | mapQuery (mf : Word16) (frame : Fin 16) (map : SlotMap)
  /-- R30. -/
  | headRestore (state : HeadState) (pending : Bool)
  /-- R32. -/
  | headRetire (state : HeadState) (timer : Nat) (taken : Time)
  /-- R37. -/
  | headQuery (record : HeadRecord) (reservations : Nat)
  /-- R45. -/
  | coverSet (settings : CoverSettings)
  /-- R70. -/
  | craneOpen (place : Place) (lowMark : Nat) (mf : Word16) (frame : Fin 16) (taken : Time)
  /-- R72. -/
  | craneClose (returned : Nat) (test : Option TestResult) (taken : Time)
  /-- R74. -/
  | craneMode (mode : Mode) (health : Health)
  /-- R75; the command list is given by its depth and the tag and clamped flag of each entry. -/
  | craneQuery (record : Link) (depth : Nat) (entries : List (Word16 × Bool)) (primary target : Option Place)
      (unplaced contributing : Bool) (contributions : Nat) (qstop : Bool) (handover : Option HandoverReport)
  /-- R83. -/
  | craneSplice (depth free : Nat)
  /-- R84. -/
  | craneFlush (returned free : Nat)
  /-- R92. -/
  | craneInterlock (staged snapshot : Word16)
  /-- R98. -/
  | craneTest (exchanges : Nat)
  /-- R105. -/
  | craneRecover (health : Health) (place : Option Place) (taken : Time)
  /-- R113. -/
  | craneMove (place : Place) (taken : Time)
  /-- R91. -/
  | quayHold (host pin inForce : Bool)
  /-- R124. -/
  | filterSet (filters : Vector AcceptFilter 8) (mask : Word32)
  /-- R125. -/
  | profileSet (profile : Profile)
  /-- R135. -/
  | unitFree
  /-- R135. -/
  | unitQuery (index : UnitNo) (entry : UnitEntry) (age : Nat) (goneAge : Option Nat) (queuePlace : Option Nat)
  /-- R136. -/
  | unitRelease (unitId : Word32) (state : UnitState)
  /-- R137. -/
  | alarmAck (latched live : BitVec 4)
  /-- R138. -/
  | registryQuery (free listed polling silent gone : Nat) (queueDepth unhomed : Nat)
      (foreign stray refusedJoins outerFails : Nat)
  /-- R152. -/
  | reportSet (threshold depth : Nat)
  /-- R156. -/
  | reportQuery (acks reports alarms threshold : Nat) (exponent : Fin 8) (lastOffered lastGarbled : Nat)
      (ackLoss overflow alarmOverflow gapPending : Nat)
  /-- R153. -/
  | fetchReports (records : List ReportRecord) (depth : Nat)
  /-- R153. -/
  | fetchAlarms (records : List AlarmRecord) (depth : Nat)
  deriving DecidableEq, Repr

/-- The result of a command, with what its reply carries beyond it (R163, R164). -/
inductive Reply where
  | ok (body : ReplyBody)
  | unknown
  | range
  | state (reason : Reason)
  | full
  | noSlot
  deriving DecidableEq, Repr

/-- The ten event flags (R166). -/
inductive Flag where
  | restarted
  | plan
  | reports
  | alarms
  | crane
  | listLow
  | head
  | quayStop
  | table
  | link
  deriving DecidableEq, Repr

/-- A flag's bit in the flag word (R173). -/
def Flag.bit : Flag → Nat
  | .restarted => 0
  | .plan => 1
  | .reports => 2
  | .alarms => 3
  | .crane => 4
  | .listLow => 5
  | .head => 6
  | .quayStop => 7
  | .table => 8
  | .link => 9

/-- A message for the host: a reply or a notice (R164, section 9.7). -/
inductive Message where
  | reply (kind tag : Byte) (result : Reply)
  | ready
  | event (flag : Flag) (object : Byte) (flags : BitVec 10) (time : Time)
  | craneAlarm (link : LinkNo) (terminal : Word32) (code previous : Byte) (gantry : Word16) (time : Time)
  deriving DecidableEq, Repr

/-- The Control Port's state. The outbound queue is `replies ++ notices`: a reply joins behind every waiting reply
and ahead of every waiting notice, a notice joins at the tail (R165). -/
structure ControlPort where
  /-- The bytes of the frame in reception, from its sync byte on; empty while hunting (R159). -/
  rx : List Byte
  inbound : List Frame
  /-- The message in transmission (R165). -/
  sending : Option Message
  replies : List Message
  notices : List Message
  flags : BitVec 10
  enables : BitVec 10
  craneSet : BitVec 24
  listLowSet : BitVec 24
  headSet : BitVec 12
  planDetail : PlanResult
  frameErrors : Nat
  overruns : Nat
  malformed : Nat
  noticeDrops : Nat
  deriving DecidableEq, Repr

/-! ## The machine -/

/-- The state of the DQ720. -/
structure State where
  /-- The level of RESETN: the DQ720 is in hard reset while it is low (R2, R169). -/
  resetn : Bool
  /-- The level of HOLDIN, the pin part of quay hold (R91). -/
  holdin : Bool
  fs : FrameScheduler
  hp : HeadPorts
  cle : CraneEngine
  cov : Coverage
  reg : Registry
  rep : ReportUnit
  cp : ControlPort
  /-- MODEL: how many free values were taken (log entry 2). -/
  freeUsed : Nat
  /-- MODEL: the commands that wait, first in, first out. -/
  pending : List Instr
  deriving DecidableEq, Repr

/-- The Frame Scheduler after hard reset (R23). Map and beacon stand at log entry 6's values until the first frame
start. -/
def FrameScheduler.reset : FrameScheduler where
  now := Time.zero
  airStarted := false
  slotStarted := false
  active := Plan.default
  staged := Plan.default
  ready := false
  last := .none
  resv := Vector.replicate 24 ⟨none, none⟩
  map := Vector.replicate 12 (Vector.replicate 24 .off)
  beacon := ⟨0#16, 0, false, 0, 0#12, []⟩

/-- The Head Port Array after hard reset (R25). -/
def HeadPorts.reset : HeadPorts where
  heads := Vector.replicate 12 HeadRecord.reset
  openSlot := none
  orders := Vector.replicate 12 none
  rx := Vector.replicate 12 []

/-- The Crane Link Engine after hard reset (R77). -/
def CraneEngine.reset : CraneEngine where
  links := Vector.replicate 24 Link.reset
  poolFree := Config.poolEntries
  hostHold := false
  contributions := 0#24
  qstop := false
  exch := Vector.replicate 24 Exchange.empty
  prevExch := Vector.replicate 24 Exchange.empty

/-- The Coverage Unit after hard reset (R44, R46). -/
def Coverage.reset : Coverage where
  settings := ⟨3, 6, 8, 2, true⟩
  records := Vector.replicate 24 none

/-- The Reefer Registry after hard reset (R139). -/
def Registry.reset : Registry where
  mask := 0#32
  filters := put (Vector.replicate 8 ⟨false, 0#32, .accept, 0, 0xFFFFFFFF#32⟩) 0 ⟨true, 0#32, .accept, 0, 0xFFFFFFFF#32⟩
  profiles := Vector.replicate 4 ⟨400, 3906, 5, 30, 3, 23438⟩
  units := Vector.replicate 1024 UnitEntry.free
  pollQueue := []
  foreign := 0
  stray := 0
  refusedJoins := 0
  outerFails := 0

/-- The Report Unit after hard reset (R157). -/
def ReportUnit.reset : ReportUnit where
  acks := []
  reports := []
  alarms := []
  exponent := 0
  lastOffered := 0
  lastGarbled := 0
  threshold := 64
  ackLoss := 0
  overflow := 0
  alarmOverflow := 0

/-- The Control Port when RESETN rises: READY alone in the outbound queue, RESTARTED set (R169). -/
def ControlPort.reset : ControlPort where
  rx := []
  inbound := []
  sending := none
  replies := []
  notices := [.ready]
  flags := 1#10
  enables := 0#10
  craneSet := 0#24
  listLowSet := 0#24
  headSet := 0#12
  planDetail := .none
  frameErrors := 0
  overruns := 0
  malformed := 0
  noticeDrops := 0

/-- The machine right after hard reset: RESETN has risen (log entry 3), the first frame start is still to come. -/
def State.reset : State where
  resetn := true
  holdin := false
  fs := FrameScheduler.reset
  hp := HeadPorts.reset
  cle := CraneEngine.reset
  cov := Coverage.reset
  reg := Registry.reset
  rep := ReportUnit.reset
  cp := ControlPort.reset
  freeUsed := 0
  pending := []

/-- Why the machine could stop. The manual describes no event that stops the DQ720, so there is no fault. -/
inductive Fault where
  deriving DecidableEq, Repr

/-- Why a command could have no meaning. -/
inductive Refusal where
  /-- Raised by `exec` alone, for a row with no meaning yet; safe, since a refused command has no next state. No row
  is left so. -/
  | notModelled (mnemonic : String)
  deriving DecidableEq, Repr

end Sys2Proof.Machine
end

