-- ==== Sys2Proof/Machine/Flags.lean ====
section
/-! DEFINITION. The outbound queue and the ten event flags (R165 to R168), and the plainest updates of State. -/

namespace Sys2Proof.Machine

/-! ## Repetition over all heads, links and units, in ascending number -/

/-- `f` for each member of `l` in turn, each on the state the one before has left. -/
def forEach {α : Type} (l : List α) (f : α → State → State) (s : State) : State :=
  l.foldl (fun s a => f a s) s

/-- `f` for each head in ascending number. -/
def forHeads (f : HeadNo → State → State) (s : State) : State := forEach (List.finRange 12) f s

/-- `f` for each link in ascending number. -/
def forLinks (f : LinkNo → State → State) (s : State) : State := forEach (List.finRange 24) f s

/-- `f` for each unit entry in ascending index. -/
def forUnits (f : UnitNo → State → State) (s : State) : State := forEach (List.finRange 1024) f s

/-! ## Reading and writing the tables -/

namespace State

/-- The current point in air time (R3). -/
def now (s : State) : Time := s.fs.now

/-- The record of head `h` (R25). -/
def head (s : State) (h : HeadNo) : HeadRecord := s.hp.heads.get h

/-- `s` with the record of head `h` replaced. -/
def setHead (s : State) (h : HeadNo) (r : HeadRecord) : State :=
  { s with hp := { s.hp with heads := put s.hp.heads h r } }

/-- The record of link `x` (R60). -/
def link (s : State) (x : LinkNo) : Link := s.cle.links.get x

/-- `s` with the record of link `x` replaced. -/
def setLink (s : State) (x : LinkNo) (l : Link) : State :=
  { s with cle := { s.cle with links := put s.cle.links x l } }

/-- The exchange state of link `x` for the current frame (R86). -/
def exch (s : State) (x : LinkNo) : Exchange := s.cle.exch.get x

/-- `s` with the exchange state of link `x` for the current frame replaced. -/
def setExch (s : State) (x : LinkNo) (e : Exchange) : State :=
  { s with cle := { s.cle with exch := put s.cle.exch x e } }

/-- The exchange state of link `x` for the frame before (R86). -/
def prevExch (s : State) (x : LinkNo) : Exchange := s.cle.prevExch.get x

/-- `s` with the exchange state of link `x` for the frame before replaced. -/
def setPrevExch (s : State) (x : LinkNo) (e : Exchange) : State :=
  { s with cle := { s.cle with prevExch := put s.cle.prevExch x e } }

/-- The handover record of link `x`, where it has one (R46). -/
def record (s : State) (x : LinkNo) : Option Handover := s.cov.records.get x

/-- `s` with the handover record of link `x` replaced. -/
def setRecord (s : State) (x : LinkNo) (w : Option Handover) : State :=
  { s with cov := { s.cov with records := put s.cov.records x w } }

/-- The reservations of link `x` (R62). -/
def resv (s : State) (x : LinkNo) : Held := s.fs.resv.get x

/-- `s` with the reservations of link `x` replaced. -/
def setResv (s : State) (x : LinkNo) (r : Held) : State :=
  { s with fs := { s.fs with resv := put s.fs.resv x r } }

/-- The unit entry at index `u` (R126). -/
def unit (s : State) (u : UnitNo) : UnitEntry := s.reg.units.get u

/-- `s` with the unit entry at index `u` replaced. -/
def setUnit (s : State) (u : UnitNo) (e : UnitEntry) : State :=
  { s with reg := { s.reg with units := put s.reg.units u e } }

/-- `s` with the poll queue replaced. -/
def setPollQueue (s : State) (q : List UnitNo) : State := { s with reg := { s.reg with pollQueue := q } }

/-- The cell of head `h` in slot `sl` of the current map. -/
def cell (s : State) (h : HeadNo) (sl : SlotNo) : Cell := (s.fs.map.get h).get sl

/-- `s` with one cell of the current map replaced. -/
def setCell (s : State) (h : HeadNo) (sl : SlotNo) (c : Cell) : State :=
  { s with fs := { s.fs with map := put s.fs.map h (put (s.fs.map.get h) sl c) } }

end State

/-! ## The outbound queue (R165) -/

/-- The waiting messages, head first. -/
def outbound (s : State) : List Message := s.cp.replies ++ s.cp.notices

/-- The outbound queue holds fewer than 64 waiting messages (R162, R165). -/
def hasRoom (s : State) : Bool := decide ((outbound s).length < Config.outCapacity)

/-- R165: a notice joins at the tail; when the queue is full it is dropped and counted. -/
def offerNotice (m : Message) (s : State) : State :=
  if hasRoom s then { s with cp := { s.cp with notices := s.cp.notices ++ [m] } }
  else { s with cp := { s.cp with noticeDrops := bump s.cp.noticeDrops } }

/-- R165: a reply joins behind every waiting reply and ahead of every waiting notice. -/
def queueReply (m : Message) (s : State) : State :=
  { s with cp := { s.cp with replies := s.cp.replies ++ [m] } }

/-! ## Event flags (R166, R168) -/

/-- `set` with member `i` added. -/
def addMember {n : Nat} (set : BitVec n) (i : Nat) : BitVec n := set ||| BitVec.twoPow n i

/-- The object byte of an EVENT notice for a flag without a detail set (R174). -/
def noObject : Byte := 255#8

/-- R166, R168: a raise sets the flag; a raise from clear to set with the flag's enable on makes an EVENT notice. -/
def raise (t : Time) (f : Flag) (object : Byte) (s : State) : State :=
  if s.cp.flags.getLsbD f.bit then s
  else
    let flags := addMember s.cp.flags f.bit
    let s' : State := { s with cp := { s.cp with flags := flags } }
    if s.cp.enables.getLsbD f.bit then offerNotice (.event f object flags t) s' else s'

/-- A raise of CRANE for link `x` (R166). -/
def raiseCrane (t : Time) (x : LinkNo) (s : State) : State :=
  raise t .crane (byte x.1) { s with cp := { s.cp with craneSet := addMember s.cp.craneSet x.1 } }

/-- A raise of LIST-LOW for link `x` (R89, R166). -/
def raiseListLow (t : Time) (x : LinkNo) (s : State) : State :=
  raise t .listLow (byte x.1) { s with cp := { s.cp with listLowSet := addMember s.cp.listLowSet x.1 } }

/-- A raise of HEAD for head `h` (R166). -/
def raiseHead (t : Time) (h : HeadNo) (s : State) : State :=
  raise t .head (byte h.1) { s with cp := { s.cp with headSet := addMember s.cp.headSet h.1 } }

/-- A raise of PLAN: the detail result is replaced (R12, R166). -/
def raisePlan (t : Time) (r : PlanResult) (s : State) : State :=
  raise t .plan noObject { s with cp := { s.cp with planDetail := r } }

/-- A raise of a flag without detail (R166). -/
def raisePlain (t : Time) (f : Flag) (s : State) : State := raise t f noObject s

/-- R167, R171: every flag, detail set and the PLAN detail result is cleared. -/
def clearFlags (s : State) : State :=
  { s with cp := { s.cp with flags := 0#10, craneSet := 0#24, listLowSet := 0#24, headSet := 0#12,
                             planDetail := .none } }

end Sys2Proof.Machine
end

