-- ==== Sys2Proof/Machine/Operands.lean ====
section
/-! DEFINITION. How the fields of commands are read: object numbers, clamped configuration values (00_scope.md 5.6),
signed numbers and codes (section 10.6). -/

namespace Sys2Proof.Machine

/-- An object number below `n`; none where it is out of range, which refuses the command with RANGE (R163). -/
def objectNo (n : Nat) (b : Nat) : Option (Fin n) := if h : b < n then some ⟨b, h⟩ else none

/-- The head a byte names. -/
def headNo (b : Byte) : Option HeadNo := objectNo 12 b.toNat

/-- The link a byte names. -/
def linkNo (b : Byte) : Option LinkNo := objectNo 24 b.toNat

/-- A value clamped to `lo..hi`. -/
def clamp (lo hi n : Nat) : Nat := max lo (min hi n)

/-- A signed value clamped to `lo..hi`. -/
def clampInt (lo hi n : Int) : Int := max lo (min hi n)

/-- The period a byte gives: 0 or 1 is taken as 1, 2 or 3 as 2, 4 or more as 4 (R69). -/
def readPeriod (b : Byte) : Period := if b.toNat ≤ 1 then .one else if b.toNat ≤ 3 then .two else .four

/-- The preferred slot a byte gives: 0 is taken as 1, above 23 as 23 (R69). -/
def readPreferred (b : Byte) : SlotNo := ⟨clamp 1 23 b.toNat, by unfold clamp; omega⟩

/-- A code of head group or slot group: above 2 is taken as 2 (R8). -/
def readGroup (v : BitVec 24) : Fin 3 := ⟨min 2 (v.toNat % 256), by omega⟩

/-- A maximum polls value: above 8 is taken as 8 (R8). -/
def readMaxPolls (v : BitVec 24) : Fin 9 := ⟨min 8 (v.toNat % 256), by omega⟩

/-- A poll-order code: other than OLDEST's is taken as LOWEST-INDEX (R8). -/
def readOrder (v : BitVec 24) : PollOrder := if v.toNat % 256 = 0 then .oldest else .lowestIndex

/-- A command entry from the values carried, clamped, with its clamped flag (R80). -/
def readEntry (v : EntryVals) : CraneEntry :=
  let g := clampInt (-8000) 8000 v.gantry.toInt
  let tr := clampInt (-8000) 8000 v.trolley.toInt
  let h := clampInt (-8000) 8000 v.hoist.toInt
  { hostTag := v.hostTag
    gantry := g
    trolley := tr
    hoist := h
    spreader := ⟨min 15 v.spreader.toNat, by omega⟩
    endOfMove := v.endOfMove
    clamped := g != v.gantry.toInt || tr != v.trolley.toInt || h != v.hoist.toInt || decide (15 < v.spreader.toNat) }

/-- Whether a state says a non-FREE entry holds id `id` (R126). -/
def holdsId (s : State) (id : Word32) (u : UnitNo) : Bool :=
  (s.unit u).state != .free && (s.unit u).unitId == id

/-- The non-FREE entry that holds a unit id (R126). -/
def findUnit (s : State) (id : Word32) : Option UnitNo := (List.finRange 1024).find? (holdsId s id)

/-- The entry a command names, or the refusal: a table index above 1023 gives RANGE, a unit id held by no non-FREE
entry STATE with NOT-LISTED (section 7.8). -/
def namedUnit (s : State) : EntryName → Except Reply UnitNo
  | .index n => match objectNo 1024 n.toNat with
    | some u => .ok u
    | none => .error .range
  | .unitId id => match findUnit s id with
    | some u => .ok u
    | none => .error (.state .notListed)

end Sys2Proof.Machine
end

