-- ==== Sys2Proof/Machine/Ops.lean ====
section
/-! DEFINITION. The shared operations between blocks: the reservation table with its searches and releases (R62 to
R67), drain completion (R34), unhoming (R131), quality invalidation (R50) and quay stop (R107). -/

namespace Sys2Proof.Machine

/-! ## Heads and distance -/

/-- Head distance: the difference of two head numbers. -/
def dist (a b : HeadNo) : Nat := (a.1 - b.1) + (b.1 - a.1)

/-- The head above, where it exists. -/
def headAbove (h : HeadNo) : Option HeadNo := objectNo 12 (h.1 + 1)

/-- The head below, where it exists. -/
def headBelow (h : HeadNo) : Option HeadNo := if h.1 = 0 then none else objectNo 12 (h.1 - 1)

/-- The adjacent heads that exist, lower number first. -/
def adjacent (h : HeadNo) : List HeadNo := (headBelow h).toList ++ (headAbove h).toList

/-- A head in service: ON or DRAINING. -/
def inService (s : State) (h : HeadNo) : Bool := (s.head h).state == .on || (s.head h).state == .draining

/-! ## The reservation table (R62 to R64) -/

/-- An entry of the reservation table. -/
structure Reservation where
  link : LinkNo
  role : Role
  place : Place
  deriving DecidableEq, Repr

/-- The reservations of one link, PRIMARY before TARGET. -/
def linkReservations (s : State) (x : LinkNo) : List Reservation :=
  (s.resv x).primary.toList.map (⟨x, .primary, ·⟩) ++ (s.resv x).target.toList.map (⟨x, .target, ·⟩)

/-- The reservation table, listed by ascending link number with PRIMARY before TARGET (R62). -/
def table (s : State) : List Reservation := (List.finRange 24).flatMap (linkReservations s)

/-- R63: a reservation is due in frame `f` when `f mod P = φ`. -/
def due (p : Place) (f : Fin 16) : Bool := f.1 % p.period.frames == p.phase

/-- R64: two reservations collide. -/
def collide (r q : Place) : Bool :=
  r.slot == q.slot && decide (dist r.head q.head ≤ 2) &&
    r.phase % min r.period.frames q.period.frames == q.phase % min r.period.frames q.period.frames

/-- The reservations that name a head, of either role (R34, R37). -/
def naming (s : State) (h : HeadNo) : List Reservation := (table s).filter (·.place.head == h)

/-- The head of a link's primary reservation: its serving head (R60). -/
def servingHead (s : State) (x : LinkNo) : Option HeadNo := (s.resv x).primary.map (·.head)

/-- The head of a link's target reservation: its target head (R108). -/
def targetHead (s : State) (x : LinkNo) : Option HeadNo := (s.resv x).target.map (·.head)

/-- R76: an open link that holds no reservation. -/
def unplaced (s : State) (x : LinkNo) : Bool :=
  (s.link x).mode != .closed && (s.resv x).primary.isNone && (s.resv x).target.isNone

/-- R65: a reservation of link `x` at place `p` is admissible. -/
def admissible (s : State) (x : LinkNo) (p : Place) : Bool :=
  (s.head p.head).state == .on && (s.fs.active.allowed.get p.head).getLsbD p.slot.1 && p.slot.1 != 0 &&
    (table s).all (fun r => !collide p r.place) && decide ((linkReservations s x).length < 2)

/-- The slots of the admission search: `p, p + 1, …, 23`, then `1, …, p − 1` (R66). -/
def searchSlots (p : SlotNo) : List SlotNo :=
  (List.finRange 24).filter (fun sl => decide (p ≤ sl)) ++
    (List.finRange 24).filter (fun sl => decide (1 ≤ sl.1) && decide (sl < p))

/-- R66: the admission search of link `x` on head `h`, with a period and a preferred slot; none is NOSLOT. -/
def admissionSearch (s : State) (x : LinkNo) (h : HeadNo) (period : Period) (p : SlotNo) : Option Place :=
  ((searchSlots p).flatMap fun sl => (List.range period.frames).map fun ph => (⟨h, sl, period, ph⟩ : Place)).find?
    (admissible s x)

/-- R67: the target search of link `x` on head `h`, with the link's period and phase; none is NOSLOT. -/
def targetSearch (s : State) (x : LinkNo) (h : HeadNo) : Option Place :=
  ((searchSlots 1).map fun sl => (⟨h, sl, (s.link x).period, (s.link x).phase⟩ : Place)).find? (admissible s x)

/-! ## Leaving service -/

/-- The mark of R29 on the entry of head `h` in the slot in progress. -/
def markEntry (h : HeadNo) (o : OpenSlot) : OpenSlot :=
  { o with entries := put o.entries h { o.entries.get h with outOfService := true } }

/-- R29: the remaining cells of head `h` in the frame are taken out of service. -/
def takeOutOfService (h : HeadNo) (s : State) : State :=
  let s := s.setHead h { s.head h with outOfService := true }
  { s with hp := { s.hp with openSlot := s.hp.openSlot.map (markEntry h) } }

/-- R50 in one record: the filtered quality of head `h` becomes invalid when the window contains `h`. -/
def Handover.invalidate (h : HeadNo) (w : Handover) : Handover :=
  match w.centre with
  | none => w
  | some c =>
    if c = h then { w with centreQ := none }
    else if headBelow c = some h then { w with leftQ := none }
    else if headAbove c = some h then { w with rightQ := none }
    else w

/-- R50: the filtered quality of head `h` becomes invalid in every handover record whose window contains it. -/
def invalidateQuality (h : HeadNo) (s : State) : State :=
  { s with cov := { s.cov with records := s.cov.records.map (Option.map (Handover.invalidate h)) } }

/-- R131 in one entry. -/
def UnitEntry.unhome (h : HeadNo) (e : UnitEntry) : UnitEntry :=
  if e.serving = some h then { e with serving := none } else e

/-- R131: every unit entry served on head `h` becomes unhomed. -/
def unhome (h : HeadNo) (s : State) : State :=
  { s with reg := { s.reg with units := s.reg.units.map (UnitEntry.unhome h) } }

/-- R34: drain completion, one event. -/
def completeDrain (t : Time) (h : HeadNo) (s : State) : State :=
  let s := s.setHead h { s.head h with state := .off, drainTimer := 0, drainOutcome := .completed }
  raiseHead t h (unhome h (invalidateQuality h (takeOutOfService h s)))

/-- R34: the test made at a retire and at each release: a DRAINING head named by no reservation completes its
drain. -/
def testDrain (t : Time) (h : HeadNo) (s : State) : State :=
  if (s.head h).state = .draining ∧ (naming s h) = [] then completeDrain t h s else s

/-! ## Releases (R65, R21) -/

/-- The slot has not yet started in the current frame (R21). -/
def unstarted (s : State) (sl : SlotNo) : Bool :=
  decide (s.now.slot < sl) || (s.now.slot == sl && !s.fs.slotStarted)

/-- R21: the unstarted CRANE cell of link `x` at `p`, and its LISTEN cells, turn QUIET. -/
def quietCells (x : LinkNo) (p : Place) (s : State) : State :=
  if unstarted s p.slot && (s.cell p.head p.slot == .crane x .primary || s.cell p.head p.slot == .crane x .target) then
    forEach (adjacent p.head)
      (fun h s => if s.cell h p.slot = .listen x then s.setCell h p.slot .quiet else s)
      (s.setCell p.head p.slot .quiet)
  else s

/-- R65: the release of the PRIMARY reservation of link `x`. -/
def releasePrimary (t : Time) (x : LinkNo) (s : State) : State :=
  match (s.resv x).primary with
  | none => s
  | some p => testDrain t p.head (quietCells x p (s.setResv x { s.resv x with primary := none }))

/-- R65: the release of the TARGET reservation of link `x`. -/
def releaseTarget (t : Time) (x : LinkNo) (s : State) : State :=
  match (s.resv x).target with
  | none => s
  | some p => testDrain t p.head (quietCells x p (s.setResv x { s.resv x with target := none }))

/-- Every reservation of link `x` is released, PRIMARY first. -/
def releaseAll (t : Time) (x : LinkNo) (s : State) : State := releaseTarget t x (releasePrimary t x s)

/-! ## Quay hold and quay stop (R91, R107) -/

/-- Quay hold is in force while either part is on (R91). -/
def holdInForce (s : State) : Bool := s.cle.hostHold || s.holdin

/-- The latest status of a link shows e-stop set. -/
def showsEStop (l : Link) : Bool := match l.latest with
  | some st => st.eStop
  | none => false

/-- R107: what makes link `x` contribute to quay stop. -/
def contributes (s : State) (x : LinkNo) : Bool :=
  (s.link x).mode != .closed && (showsEStop (s.link x) || ((s.link x).health == .lost && s.cov.settings.stopOnLost))

/-- `set` with member `i` in or out. -/
def withMember {n : Nat} (set : BitVec n) (i : Nat) (b : Bool) : BitVec n :=
  if b then set ||| BitVec.twoPow n i else set &&& ~~~(BitVec.twoPow n i)

/-- The quay-stop contribution count (R107). -/
def contributionCount (s : State) : Nat :=
  ((List.finRange 24).filter fun x => s.cle.contributions.getLsbD x.1).length

/-- R107: the contribution of link `x` is recomputed; QSTOP follows the count between 0 and 1, and each change of
QSTOP raises QUAY-STOP. -/
def recomputeStop (t : Time) (x : LinkNo) (s : State) : State :=
  let set := withMember s.cle.contributions x.1 (contributes s x)
  let level := set != 0#24
  let s' : State := { s with cle := { s.cle with contributions := set, qstop := level } }
  if level = s.cle.qstop then s' else raisePlain t .quayStop s'

end Sys2Proof.Machine
end

