-- ==== Sys2Proof/Machine/Layouts.lean ====
section
/-! DEFINITION. The byte layouts of bursts, beacon, head link messages, notices and replies (Chapter 10). -/

namespace Sys2Proof.Machine

/-- A time as carried: multiframe 2, frame 1, slot 1 (R172). -/
def Time.bytes (t : Time) : List Byte := be16 t.mf ++ [byte t.frame.1, byte t.slot.1]

/-! ## Crane bursts (R175) -/

/-- The content of a down burst (R87, R90). -/
inductive DownContent where
  | hold
  | test (pattern : BitVec 64)
  | idle
  | command (entry : CraneEntry) (listDry : Bool)
  deriving DecidableEq, Repr

/-- The mode code of a down burst (R175). -/
def DownContent.code : DownContent → Byte
  | .hold => 1#8
  | .test _ => 2#8
  | .idle => 3#8
  | .command _ _ => 4#8

/-- The list-dry flag: COMMAND bursts only. -/
def DownContent.listDry : DownContent → Bool
  | .command _ d => d
  | _ => false

/-- The payload of a down burst from byte 12 on (R175). -/
def DownContent.payload : DownContent → List Byte
  | .command e _ => be16 e.hostTag ++ be16 (BitVec.ofInt 16 e.gantry) ++ be16 (BitVec.ofInt 16 e.trolley) ++
      be16 (BitVec.ofInt 16 e.hoist) ++ [byte (e.spreader.1 + if e.endOfMove then 16 else 0)]
  | .test p => be64 p
  | _ => []

/-- The number a list of bits 0, 1, 2 makes. -/
def bits3 (a b c : Bool) : Nat := (if a then 1 else 0) + (if b then 2 else 0) + (if c then 4 else 0)

/-- The bytes of a down burst to link record `l`, before its check (R175). -/
def downFields (t : Time) (l : Link) (c : DownContent) : List Byte :=
  be32 l.terminal ++ t.bytes ++ [c.code, byte (bits3 l.farEnd (l.health == .degraded) c.listDry)] ++
    be16 l.snapshot ++ c.payload

/-- A crane up burst: 24 bytes with a valid check over bytes 0 to 21; anything else fails test 2 of R94. -/
def readUp : List Byte → Option UpBurst
  | [t3, t2, t1, t0, f, a, g1, g0, r1, r0, h1, h0, e1, e0, p7, p6, p5, p4, p3, p2, p1, p0, c1, c0] =>
    if crc16 [t3, t2, t1, t0, f, a, g1, g0, r1, r0, h1, h0, e1, e0, p7, p6, p5, p4, p3, p2, p1, p0] = rd16 c1 c0 then
      some
        { terminal := rd32 t3 t2 t1 t0
          status :=
            { eStop := f.getLsbD 0
              overload := f.getLsbD 1
              alarm := a
              gantry := rd16 g1 g0
              trolley := rd16 r1 r0
              hoist := (rd16 h1 h0).toInt
              echo := rd16 e1 e0 }
          pattern := (rd32 p7 p6 p5 p4) ++ (rd32 p3 p2 p1 p0) }
    else none
  | _ => none

/-! ## Reefer bursts and the beacon (R176) -/

/-- A report burst whose outer test passed (R127, R176): temperatures as carried, power state as its code. -/
structure ReportBurst where
  unitId : Word32
  kind : ReportKind
  seq : BitVec 4
  supply : Int
  ret : Int
  setpoint : Int
  power : Byte
  alarm : Byte
  innerOk : Bool
  deriving DecidableEq, Repr

/-- The kind of a report burst by its code (R176). -/
def readReportKind (b : Byte) : Option ReportKind :=
  match b.toNat with
  | 1 => some .join
  | 2 => some .periodic
  | 3 => some .polled
  | _ => none

/-- The power state of a code; none for a code of none of the three (R141, R176). -/
def readPower (b : Byte) : Option Power :=
  match b.toNat with
  | 1 => some .on
  | 2 => some .off
  | 3 => some .defrost
  | _ => none

/-- The code of a power state (R176). -/
def Power.code : Power → Byte
  | .on => 1#8
  | .off => 2#8
  | .defrost => 3#8

/-- A temperature field: its low 12 bits, signed; the high 4 bits are ignored (R176). -/
def readTemperature (hi lo : Byte) : Int := ((rd16 hi lo).setWidth 12).toInt

/-- The outer test of R127: length, outer check and kind code. -/
def readReport : List Byte → Option ReportBurst
  | [u3, u2, u1, u0, k, q, s1, s0, r1, r0, p1, p0, w, a, i1, i0, o1, o0] =>
    if crc16 [u3, u2, u1, u0, k, q, s1, s0, r1, r0, p1, p0, w, a, i1, i0] = rd16 o1 o0 then
      (readReportKind k).map fun kind =>
        { unitId := rd32 u3 u2 u1 u0
          kind := kind
          seq := q.setWidth 4
          supply := readTemperature s1 s0
          ret := readTemperature r1 r0
          setpoint := readTemperature p1 p0
          power := w
          alarm := a
          innerOk := crc16 [s1, s0, r1, r0, p1, p0, w, a] == rd16 i1 i0 }
    else none
  | _ => none

/-- The poll burst of a POLL cell (R176). -/
def pollBurst (t : Time) (id : Word32) : List Byte := withCheck (be32 id ++ t.bytes)

/-- The open invitation of a CONTENTION cell (R176). -/
def invitation (t : Time) : List Byte := withCheck t.bytes

/-- One acknowledgement in the beacon (R176). -/
def Ack.bytes (a : Ack) : List Byte := be32 a.unitId ++ [a.seq.setWidth 8]

/-- The beacon (R176). -/
def Beacon.bytes (b : Beacon) : List Byte :=
  withCheck (be16 b.mf ++ [byte b.frame.1, byte (b.exponent.1 + if b.hold then 8 else 0)] ++
    be16 (b.joinMask.setWidth 16) ++ [byte b.acks.length] ++ b.acks.flatMap Ack.bytes)

/-! ## Head link messages (R177) -/

/-- The code of a cell kind (R177). -/
def Cell.code : Cell → Byte
  | .beacon => 1#8
  | .crane _ _ => 2#8
  | .listen _ => 3#8
  | .poll _ _ => 4#8
  | .contention => 5#8
  | .quiet => 6#8
  | .off => 7#8

/-- A slot order on the head link: sync, type 1, fields, check over type and fields (R177). -/
def SlotOrder.bytes (o : SlotOrder) : List Byte :=
  Config.sync :: withCheck ([1#8] ++ o.time.bytes ++ [o.kind, byte o.burst.length] ++ o.burst)

/-- What a head says to the DQ720 (R24, R177). -/
inductive HeadMessage where
  | order
  | ret (mf : Word16) (frame slot result level : Byte) (bytes : List Byte)
  | status (serial : Word32) (fault : Bool)
  deriving DecidableEq, Repr

/-- What the bytes of a message in reception, sync byte first, amount to. -/
inductive Reception where
  | incomplete
  | bad
  | complete (m : HeadMessage) (rest : List Byte)
  deriving DecidableEq, Repr

/-- The message of `n` field bytes after the type byte: its check covers type and fields (R177). -/
def checked (type : Byte) (n : Nat) (after : List Byte) (m : List Byte → HeadMessage) : Reception :=
  if after.length < n + 2 then .incomplete
  else if be16 (crc16 (type :: after.take n)) = (after.drop n).take 2 then .complete (m (after.take n)) (after.drop (n + 2))
  else .bad

/-- The fields of a return. -/
def readReturn : List Byte → HeadMessage
  | m1 :: m0 :: f :: s :: r :: l :: _ :: bytes => .ret (rd16 m1 m0) f s r l bytes
  | _ => .order

/-- The fields of a head status record. -/
def readStatus : List Byte → HeadMessage
  | [a, b, c, d, f] => .status (rd32 a b c d) (f.getLsbD 0)
  | _ => .order

/-- R177: a message is bad when its type is none of the three, its burst length or byte count is above 64, or its
check fails; each as soon as it is seen. -/
def receive : List Byte → Reception
  | [] | [_] => .incomplete
  | _ :: type :: after =>
    match type.toNat with
    | 1 => match after[5]? with
      | none => .incomplete
      | some n => if Config.largestBurst < n.toNat then .bad else checked type (6 + n.toNat) after fun _ => .order
    | 2 => match after[6]? with
      | none => .incomplete
      | some n => if Config.largestBurst < n.toNat then .bad else checked type (7 + n.toNat) after readReturn
    | 3 => checked type 5 after readStatus
    | _ => .bad

/-- Hunting over received bytes (R177, R159): the messages they complete, and the bytes of the message still in
reception. After a bad message hunting resumes at the byte after its sync byte. `fuel` is at least the number of
bytes. -/
def scan : Nat → List Byte → List HeadMessage × List Byte
  | 0, bytes => ([], bytes)
  | fuel + 1, bytes =>
    match bytes with
    | [] => ([], [])
    | b :: rest =>
      if b = Config.sync then
        match receive bytes with
        | .incomplete => ([], bytes)
        | .bad => scan fuel rest
        | .complete m more => (m :: (scan fuel more).1, (scan fuel more).2)
      else scan fuel rest

/-! ## Notices and replies (R172 to R174) -/

/-- The identity fields of R170 (R174). -/
def identityBytes : List Byte :=
  be16 720#16 ++ [3#8, 12#8, 24#8] ++ be16 512#16 ++ [64#8] ++ be16 1024#16 ++ [8#8, 4#8, 32#8] ++ be16 256#16 ++
    [32#8, 64#8, 2#8] ++ be16 1020#16

/-- A result code (R172). -/
def Reply.code : Reply → Byte
  | .ok _ => 0#8
  | .unknown => 1#8
  | .range => 2#8
  | .state _ => 3#8
  | .full => 4#8
  | .noSlot => 5#8

/-- A reason code (R172). -/
def Reason.code : Reason → Byte
  | .noneGiven => 0#8
  | .linkOpen => 1#8
  | .terminalInUse => 2#8
  | .headState => 3#8
  | .linkClosed => 4#8
  | .health => 5#8
  | .headRequired => 6#8
  | .unplaced => 7#8
  | .handover => 8#8
  | .sameHead => 9#8
  | .notListed => 10#8

/-! ## Codes used in bodies (section 10.6) -/

/-- A head state's code. -/
def HeadState.code : HeadState → Byte
  | .absent => 0#8
  | .off => 1#8
  | .on => 2#8
  | .draining => 3#8
  | .fault => 4#8

/-- A link mode's code. -/
def Mode.code : Mode → Byte
  | .closed => 0#8
  | .standby => 1#8
  | .service => 2#8
  | .test => 3#8

/-- A health's code. -/
def Health.code : Health → Byte
  | .good => 0#8
  | .warned => 1#8
  | .degraded => 2#8
  | .lost => 3#8
  | .recovering => 4#8

/-- A handover state's code. -/
def HandoverState.code : HandoverState → Byte
  | .settled => 0#8
  | .candidate => 1#8
  | .dual => 2#8

/-- A reservation role's code. -/
def Role.code : Role → Byte
  | .primary => 0#8
  | .target => 1#8

/-- A unit entry state's code. -/
def UnitState.code : UnitState → Byte
  | .free => 0#8
  | .listed => 1#8
  | .polling => 2#8
  | .silent => 3#8
  | .gone => 4#8

/-- The code of an alarm kind in an alarm record. -/
def AlarmKind.code : AlarmKind → Byte
  | .unit => 1#8
  | .excursion => 2#8
  | .silent => 3#8
  | .power => 4#8

/-- A filter action's code. -/
def FilterAction.code : FilterAction → Byte
  | .accept => 0#8
  | .reject => 1#8

/-- A poll order's code. -/
def PollOrder.code : PollOrder → Byte
  | .oldest => 0#8
  | .lowestIndex => 1#8

/-- The code of a serving head, target head or candidate: 255 for none. -/
def headCode : Option HeadNo → Byte
  | some h => byte h.1
  | none => 255#8

/-- A filtered quality: 2 bytes, 0xFFFF for invalid. -/
def qualityBytes (q : Option Nat) : List Byte := be16 ((q.map (BitVec.ofNat 16)).getD 0xFFFF#16)

/-- An effective score: 2 bytes, signed; absent where the quality is invalid. -/
def scoreBytes (e : Option Int) : List Byte := (e.map fun v => be16 (BitVec.ofInt 16 v)).getD []

/-- An alarm set: one byte, its bits as in State. -/
def alarmSetByte (a : BitVec 4) : Byte := a.setWidth 8

/-- The PLAN result fields of the POLL EVENTS reply: result, multiframe, objects (R173). DESIGN CHOICE (log entry 37):
where no result is reported the multiframe number, of which R173 says nothing, is 0. -/
def PlanResult.bytes : PlanResult → List Byte
  | .none => [0#8, 0#8, 0#8, 0#8, 0#8]
  | .applied mf => [1#8] ++ be16 mf ++ [0#8, 0#8]
  | .groupSpacing mf a b => [2#8] ++ be16 mf ++ [byte a.1, byte b.1]
  | .reservationConflict mf x => [3#8] ++ be16 mf ++ [byte x.1, 0#8]

/-- The OK body of a reply after its result code: laid out by R173 and R174 for POLL EVENTS and IDENTIFY, and following
from the widths and codes of sections 10.1, 10.2 and 10.6 where each field the owning rule lists has one there, in the
order of that rule; none for the bodies whose layout the manual leaves to their fields alone (log entry 14). -/
def ReplyBody.bytes (b : ReplyBody) : Option (List Byte) :=
  match b with
  | .empty => some []
  | .identify => some identityBytes
  | .pollEvents flags crane low head plan fe ov mp nd =>
    some (be16 (flags.setWidth 16) ++ be24 crane ++ be24 low ++ be16 (head.setWidth 16) ++ plan.bytes ++
      be16 (BitVec.ofNat 16 fe) ++ be16 (BitVec.ofNat 16 ov) ++ be16 (BitVec.ofNat 16 mp) ++ be16 (BitVec.ofNat 16 nd))
  | .notifySet enables => some (be16 (enables.setWidth 16))
  | .planCommit boundary => some (be16 boundary)
  | .craneMode mode health => some [mode.code, health.code]
  | .craneInterlock staged snapshot => some (be16 staged ++ be16 snapshot)
  | .unitFree => some [UnitState.free.code]
  | .unitRelease id state => some (be32 id ++ [state.code])
  | .alarmAck latched live => some [alarmSetByte latched, alarmSetByte live]
  | _ => none

/-- What the body of every reply begins with: the result code, for STATE followed by the reason byte (R172). -/
def Reply.lead (r : Reply) : List Byte :=
  match r with
  | .state reason => [r.code, reason.code]
  | _ => [r.code]

/-- The body of a reply (R172): its lead and, for OK, the body of its command. -/
def Reply.bytes (r : Reply) : Option (List Byte) :=
  match r with
  | .ok body => body.bytes.map (r.lead ++ ·)
  | _ => some r.lead

/-- The kind byte of a message: a reply's is its command's with bit 7 set, a notice's has bit 7 clear (R172, R173). -/
def Message.kindByte : Message → Byte
  | .reply kind _ _ => kind ||| 0x80#8
  | .ready => 0x70#8
  | .event _ _ _ _ => 0x71#8
  | .craneAlarm _ _ _ _ _ _ => 0x72#8

/-- The tag of a message: a reply's is its command's, a notice's 0 (R164, R172). -/
def Message.tag : Message → Byte
  | .reply _ tag _ => tag
  | .ready | .event _ _ _ _ | .craneAlarm _ _ _ _ _ _ => 0#8

/-- The body of a message (R172 to R174). -/
def Message.body : Message → Option (List Byte)
  | .reply _ _ result => result.bytes
  | .ready => some identityBytes
  | .event f object flags t => some ([byte f.bit, object] ++ be16 (flags.setWidth 16) ++ t.bytes)
  | .craneAlarm x terminal code previous gantry t =>
    some ([byte x.1] ++ be32 terminal ++ [code, previous] ++ be16 gantry ++ t.bytes)

/-- The frame of a message, where its body is laid out. -/
def Message.frame (m : Message) : Option Frame := m.body.map (⟨m.kindByte, m.tag, ·⟩)

end Sys2Proof.Machine
end

