-- ==== Sys2Proof/Machine/SlotMap.lean ====
section
/-! DEFINITION. Plans and their validation (R11, R12), the slot map (R16 to R20) and the beacon (R6). -/

namespace Sys2Proof.Machine

/-! ## Plan validation -/

/-- R11: heads `a < b` of equal head group stand at least 3 apart. -/
def spacingFails (p : Plan) (a b : HeadNo) : Bool :=
  decide (a < b) && p.headGroup.get a == p.headGroup.get b && decide (b.1 < a.1 + 3)

/-- All pairs of heads, lowest first head first, then lowest second head. -/
def headPairs : List (HeadNo × HeadNo) :=
  (List.finRange 12).flatMap fun a => (List.finRange 12).map fun b => (a, b)

/-- The failing pair of the group-spacing check with the lowest first head, and among those the lowest second. -/
def spacingFault (p : Plan) : Option (HeadNo × HeadNo) := headPairs.find? fun ab => spacingFails p ab.1 ab.2

/-- R11: a reservation lies outside the crane-allowed set of its head. -/
def outsideAllowed (p : Plan) (r : Reservation) : Bool := !(p.allowed.get r.place.head).getLsbD r.place.slot.1

/-- The lowest link number among the links holding a failing reservation. -/
def reservationFault (s : State) (p : Plan) : Option LinkNo :=
  ((table s).find? (outsideAllowed p)).map (·.link)

/-- R11, R12: the outcome of validating the staged plan at a boundary of multiframe `mf`. -/
def validatePlan (s : State) (mf : Word16) : PlanResult :=
  match spacingFault s.fs.staged with
  | some (a, b) => .groupSpacing mf a b
  | none =>
    match reservationFault s s.fs.staged with
    | some x => .reservationConflict mf x
    | none => .applied mf

/-- R12: a valid staged plan becomes the active plan; either way the staged plan becomes a copy of the active plan,
plan-ready is cleared, the result is kept and PLAN is raised. -/
def dealWithPlan (s : State) : State :=
  if s.fs.ready then
    let r := validatePlan s s.now.mf
    let plan := match r with
      | .applied _ => s.fs.staged
      | _ => s.fs.active
    raisePlan s.now r { s with fs := { s.fs with active := plan, staged := plan, ready := false, last := r } }
  else s

/-! ## The slot map -/

/-- R16: the reservation that is due in frame `f` at head `h` and slot `sl`. -/
def dueAt (s : State) (f : Fin 16) (h : HeadNo) (sl : SlotNo) : Option Reservation :=
  (table s).find? fun r => r.place.head == h && r.place.slot == sl && due r.place f

/-- R17: the link of a CRANE cell in slot `sl` on a head adjacent to `h`. -/
def listensTo (s : State) (f : Fin 16) (h : HeadNo) (sl : SlotNo) : Option LinkNo :=
  (adjacent h).findSome? fun a => (dueAt s f a sl).map (·.link)

/-- R18: some CRANE cell lies in slot `sl` on a head within distance 2 of `h`. -/
def craneNear (s : State) (f : Fin 16) (h : HeadNo) (sl : SlotNo) : Bool :=
  (table s).any fun r => r.place.slot == sl && decide (dist r.place.head h ≤ 2) && due r.place f

/-- R18: the cell of head `h` in slot `sl` is reefer-eligible. A head with a CRANE cell in the slot or next to one is
within distance 2 of it. -/
def eligible (s : State) (f : Fin 16) (h : HeadNo) (sl : SlotNo) : Bool :=
  sl.1 != 0 && (s.head h).state == .on && s.fs.active.slotGroup.get sl == s.fs.active.headGroup.get h &&
    !craneNear s f h sl

/-- R19: the units of the poll queue served on `h`, in the order they are taken. -/
def candidates (s : State) (h : HeadNo) : List UnitNo :=
  let c := s.reg.pollQueue.filter fun u => (s.unit u).serving == some h
  match s.fs.active.order with
  | .oldest => c
  | .lowestIndex => (List.finRange 1024).filter (c.contains ·)

/-- R19: the reefer-eligible slots of head `h`, ascending. -/
def eligibleSlots (s : State) (f : Fin 16) (h : HeadNo) : List SlotNo :=
  (List.finRange 24).filter (eligible s f h)

/-- R19: the first eligible cells, up to the maximum polls, become POLL cells of the candidates in turn; the rest
become CONTENTION cells. -/
def reeferCell (s : State) (f : Fin 16) (h : HeadNo) (sl : SlotNo) : Cell :=
  let i := (eligibleSlots s f h).idxOf sl
  if i < s.fs.active.maxPolls.1 then
    match (candidates s h)[i]? with
    | some u => .poll u (s.unit u).unitId
    | none => .contention
  else .contention

/-- R16 to R20: the cell of head `h` in slot `sl` of the map built for frame `f`. -/
def buildCell (s : State) (f : Fin 16) (h : HeadNo) (sl : SlotNo) : Cell :=
  if sl.1 = 0 then (if inService s h then .beacon else .off)
  else
    match dueAt s f h sl with
    | some r => .crane r.link r.role
    | none =>
      if !inService s h then .off
      else
        match listensTo s f h sl with
        | some x => .listen x
        | none => if eligible s f h sl then reeferCell s f h sl else .quiet

/-- R16: the slot map of frame `f` from the active plan, the head states, the reservation table and the poll
queue. -/
def buildMap (s : State) (f : Fin 16) : SlotMap :=
  Vector.ofFn fun h => Vector.ofFn fun sl => buildCell s f h sl

/-! ## The beacon -/

/-- R6: the join mask, the heads in state ON. -/
def joinMask (s : State) : BitVec 12 :=
  (List.finRange 12).foldl (fun m h => if (s.head h).state = .on then addMember m h.1 else m) 0#12

/-- R6, R150: the beacon content of the new frame; the acknowledgements it takes leave the ack queue. -/
def assembleBeacon (s : State) : State :=
  { s with
    fs := { s.fs with beacon :=
      { mf := s.now.mf
        frame := s.now.frame
        hold := holdInForce s
        exponent := s.rep.exponent
        joinMask := joinMask s
        acks := s.rep.acks.take Config.beaconAcks } }
    rep := { s.rep with acks := s.rep.acks.drop Config.beaconAcks } }

end Sys2Proof.Machine
end

