-- ==== Sys2Proof/Machine/Links.lean ====
section
/-! DEFINITION. What happens to one crane link: its window and effective scores (R51, R52), health (R101 to R103),
tests (R99, R100), handover steps (R109 to R119) and unplacing (R76). -/

namespace Sys2Proof.Machine

/-! ## The window (R46, R49, R51, R52) -/

/-- The filtered quality of head `h` in a record; none when it is invalid or `h` lies outside the window. -/
def Handover.quality (w : Handover) (h : HeadNo) : Option Nat :=
  match w.centre with
  | none => none
  | some c =>
    if c = h then w.centreQ
    else if headBelow c = some h then w.leftQ
    else if headAbove c = some h then w.rightQ
    else none

/-- `w` with the filtered quality of window head `h` set; a head outside the window changes nothing (R47). -/
def Handover.setQuality (w : Handover) (h : HeadNo) (q : Option Nat) : Handover :=
  match w.centre with
  | none => w
  | some c =>
    if c = h then { w with centreQ := q }
    else if headBelow c = some h then { w with leftQ := q }
    else if headAbove c = some h then { w with rightQ := q }
    else w

/-- R51: the window on the new centre; a head of both windows keeps its quality; candidate none, trigger count 0. -/
def Handover.recentre (w : Handover) (n : HeadNo) : Handover :=
  { w with
    centre := some n
    leftQ := (headBelow n).bind w.quality
    centreQ := w.quality n
    rightQ := (headAbove n).bind w.quality
    candidate := none
    trigger := 0 }

/-- R51, R76: the window of a link that became unplaced, in SETTLED. -/
def Handover.emptyWindow (w : Handover) : Handover :=
  { w with centre := none, leftQ := none, centreQ := none, rightQ := none, candidate := none, trigger := 0,
           state := .settled, forced := false }

/-- R49: one measurement of level code `level` with filter constant `k`. -/
def filterStep (k : Nat) (level : Nat) (f : Option Nat) : Nat :=
  match f with
  | none => 16 * level
  | some f =>
    let d : Int := 16 * (level : Int) - (f : Int)
    let q := d.tdiv (2 ^ k)
    let step := if q = 0 then (if 0 < d then 1 else if d < 0 then -1 else 0) else q
    ((f : Int) + step).toNat

/-- R52: the number of links other than `x` that hold a reservation on head `h`. -/
def otherLinks (s : State) (x : LinkNo) (h : HeadNo) : Nat :=
  ((List.finRange 24).filter fun y => y != x && (linkReservations s y).any (·.place.head == h)).length

/-- R52: the effective score of head `h` for link `x`, given its filtered quality. -/
def scoreOf (s : State) (x : LinkNo) (h : HeadNo) (q : Nat) : Int :=
  (q : Int) - 16 * (s.cov.settings.weight : Int) * (otherLinks s x h : Int)

/-- R52: the effective score of head `h` for link `x`; none where its quality is invalid. -/
def effectiveScore (s : State) (x : LinkNo) (h : HeadNo) : Option Int :=
  ((s.record x).bind (·.quality h)).map (scoreOf s x h)

/-- A valid ON neighbour with its effective score (R116). -/
def neighbour (s : State) (x : LinkNo) (h : Option HeadNo) : List (HeadNo × Int) :=
  match h with
  | none => []
  | some h =>
    if (s.head h).state = .on then
      match effectiveScore s x h with
      | some e => [(h, e)]
      | none => []
    else []

/-- R116: the valid ON neighbours of the centre of link `x`'s window, the higher effective score first, of equal
scores the lower head number. -/
def rankedNeighbours (s : State) (x : LinkNo) : List (HeadNo × Int) :=
  match (s.record x).bind (·.centre) with
  | none => []
  | some c =>
    match neighbour s x (headBelow c), neighbour s x (headAbove c) with
    | [l], [r] => if r.2 ≤ l.2 then [l, r] else [r, l]
    | l, r => l ++ r

/-- The first search that admits a slot, over heads in turn (R116, R119). -/
def firstAdmitted (s : State) (x : LinkNo) (heads : List (HeadNo × Int)) : Option Place :=
  heads.findSome? fun h => targetSearch s x h.1

/-- `s` with the handover record of link `x` changed by `f`, where it has one. -/
def updateRecord (x : LinkNo) (f : Handover → Handover) (s : State) : State :=
  s.setRecord x ((s.record x).map f)

/-- `s` with the record of link `x` changed by `f`. -/
def updateLink (x : LinkNo) (f : Link → Link) (s : State) : State := s.setLink x (f (s.link x))

/-! ## Health (R101 to R103) and tests (R99, R100) -/

/-- R101: the health read from the score. -/
def healthOf (score : Nat) : Health :=
  if score ≤ 95 then .good else if score ≤ 127 then .warned else if score ≤ 254 then .degraded else .lost

/-- R101: a change of health raises CRANE; R107: a change into or out of LOST recomputes the contribution. -/
def setHealth (t : Time) (x : LinkNo) (h : Health) (s : State) : State :=
  if (s.link x).health = h then s
  else recomputeStop t x (raiseCrane t x (updateLink x (fun l => { l with health := h }) s))

/-- The result of a test in progress, aborted (R100). -/
def abortedResult (p : TestProgress) : TestResult := ⟨p.done, p.bitErrors, true⟩

/-- R100: the abort of a test in progress by quay hold or by health LOST: the result is stored, the mode becomes
STANDBY and CRANE is raised. -/
def abortTest (t : Time) (x : LinkNo) (s : State) : State :=
  match (s.link x).mode, (s.link x).test with
  | .test, some p =>
    raiseCrane t x (updateLink x (fun l => { l with mode := .standby, test := none, testResult := some (abortedResult p) }) s)
  | _, _ => s

/-- R103: link `x` enters LOST. -/
def enterLost (t : Time) (x : LinkNo) (s : State) : State :=
  abortTest t x (setHealth t x .lost (updateLink x (fun l => { l with score := 255, recovery := 0 }) s))

/-- R76, R116, R118: link `x` becomes unplaced: reservations released, window empty, SETTLED, health LOST, CRANE
raised. -/
def unplace (t : Time) (x : LinkNo) (s : State) : State :=
  raiseCrane t x (enterLost t x (updateRecord x Handover.emptyWindow (releaseAll t x s)))

/-! ## Handover steps (R109 to R119) -/

/-- The TARGET reservation at `p` is admitted and link `x` enters DUAL, dual count 0 (R109, R113, R119). No TARGET
cell of this DUAL has started yet (R110). -/
def enterDual (x : LinkNo) (p : Place) (forced : Bool) (s : State) : State :=
  let s := s.setResv x { s.resv x with target := some p }
  let s := updateRecord x (fun w => { w with state := .dual, dual := 0, forced := forced }) s
  let s := s.setExch x { s.exch x with targetStarted := false }
  s.setPrevExch x { s.prevExch x with targetStarted := false }

/-- The blocked count of link `x` rises by one (R109, R113, R119). -/
def countBlocked (x : LinkNo) (s : State) : State :=
  updateRecord x (fun w => { w with blocked := bump w.blocked }) s

/-- R65: the TARGET reservation of link `x` becomes its PRIMARY. -/
def promote (x : LinkNo) (s : State) : State := s.setResv x ⟨(s.resv x).target, none⟩

/-- R111, R114: the handover of link `x` completes onto its target. -/
def completeHandover (t : Time) (x : LinkNo) (s : State) : State :=
  match targetHead s x with
  | none => s
  | some n =>
    let s := promote x (releasePrimary t x s)
    let s := updateRecord x (fun w =>
      { w.recentre n with state := .settled, forced := false, completed := bump w.completed }) s
    raiseCrane t x s

/-- R112, R115: the TARGET of link `x` is released without completion: SETTLED, or a forced CANDIDATE when the
serving head is DRAINING; the abandoned count rises and CRANE is raised. -/
def dropTarget (t : Time) (x : LinkNo) (s : State) : State :=
  let s := releaseTarget t x s
  let draining := match servingHead s x with
    | some h => (s.head h).state == .draining
    | none => false
  let s := updateRecord x (fun w =>
    { w with candidate := none, trigger := 0, forced := draining,
             state := if draining then .candidate else .settled, abandoned := bump w.abandoned }) s
  raiseCrane t x s

/-- R119: one forced drain attempt of link `x`. -/
def attemptForced (x : LinkNo) (s : State) : State :=
  let ranked := rankedNeighbours s x
  match firstAdmitted s x ranked with
  | some p => updateRecord x (fun w => { w with candidate := some p.head }) (enterDual x p true s)
  | none =>
    updateRecord x (fun w =>
      { w with candidate := ranked.head?.map (·.1), state := .candidate, forced := true, blocked := bump w.blocked }) s

/-- R116: the emergency move of link `x`, whose serving head is lost: its reservation there is released first, so it
is left out of the collision test. -/
def emergencyMove (t : Time) (x : LinkNo) (s : State) : State :=
  let released := releasePrimary t x s
  match firstAdmitted released x (rankedNeighbours released x) with
  | some p =>
    let s := released.setResv x { released.resv x with primary := some p }
    let s := updateRecord x (fun w => { w.recentre p.head with state := .settled, forced := false }) s
    raiseCrane t x s
  | none => unplace t x released

/-- R112: the handover of link `x` is abandoned at dual count 8. -/
def abandonHandover (t : Time) (x : LinkNo) (s : State) : State :=
  dropTarget t x (updateRecord x (fun w => { w with dual := 8 }) s)

/-- R110, R112: the dual count rises by one; at 8 the handover is abandoned. -/
def stepDual (t : Time) (x : LinkNo) (w : Handover) (s : State) : State :=
  if 8 ≤ w.dual + 1 then abandonHandover t x s
  else updateRecord x (fun w => { w with dual := w.dual + 1 }) s

/-! ## Evaluation (R53 to R56, R109) -/

/-- R56: the trigger threshold for a health. -/
def thresholdFor (s : State) (h : Health) : Nat := if h = .degraded then 1 else s.cov.settings.trigger

/-- R55: the qualifier of link `x` served on head `c`: the best valid ON neighbour, where its score reaches the
serving head's plus the hysteresis. -/
def qualifier (s : State) (x : LinkNo) (c : HeadNo) : Option HeadNo :=
  match effectiveScore s x c, rankedNeighbours s x with
  | some e, best :: _ => if e + 16 * (s.cov.settings.hysteresis : Int) ≤ best.2 then some best.1 else none
  | _, _ => none

/-- R56: the trigger count after an evaluation with qualifier `q`. -/
def nextTrigger (w : Handover) (q : HeadNo) : Nat := if w.candidate = some q then min 64 (w.trigger + 1) else 1

/-- R109: the attempt to start a handover of link `x` to head `q`. -/
def startHandover (x : LinkNo) (q : HeadNo) (s : State) : State :=
  match targetSearch s x q with
  | some p => enterDual x p false s
  | none => countBlocked x s

/-- R56: one evaluation of link `x` served on head `c`, with record `w`. -/
def evaluate (x : LinkNo) (c : HeadNo) (w : Handover) (s : State) : State :=
  match qualifier s x c with
  | none => updateRecord x (fun w => { w with candidate := none, trigger := 0, state := .settled }) s
  | some q =>
    let n := nextTrigger w q
    let s := updateRecord x (fun w => { w with candidate := some q, trigger := n, state := .candidate }) s
    if thresholdFor s (s.link x).health ≤ n then startHandover x q s else s

/-- R53, R54: the health and mode under which link `x` is evaluated. -/
def evaluable (l : Link) : Bool :=
  (l.health == .good || l.health == .warned || l.health == .degraded) && (l.mode == .standby || l.mode == .service)

end Sys2Proof.Machine
end

