-- ==== Sys2Proof/Machine/Exchange.lean ====
section
/-! DEFINITION. Crane exchanges: the down burst (R86 to R93), its judgement (R94 to R96), the settlement (R97) with
what it does to test (R99), score and health (R102, R104) and handover (R110, R112, R119). -/

namespace Sys2Proof.Machine

/-! ## The down burst -/

/-- The next bit of a pattern register and the register after it: each new bit is the exclusive-or of the bits 15 and
14 places before it (R98). The register holds the next 15 bits of the sequence, the first in its top bit. -/
def patternStep (r : BitVec 15) : Bool × BitVec 15 :=
  (r.getLsbD 14, (r <<< 1) ||| (if r.getLsbD 14 != r.getLsbD 13 then 1#15 else 0#15))

/-- The next `n` bits of a sequence behind the bits already drawn, first bit first (R99). -/
def drawBits : Nat → BitVec 15 → BitVec 64 → BitVec 15 × BitVec 64
  | 0, r, acc => (r, acc)
  | n + 1, r, acc => drawBits n (patternStep r).2 ((acc <<< 1) ||| (if (patternStep r).1 then 1#64 else 0#64))

/-- R93: the snapshot is taken at the first composition in frame φ of the multiframe. -/
def takeSnapshot (t : Time) (x : LinkNo) (s : State) : State :=
  if t.frame.1 = (s.link x).phase ∧ (s.exch x).started = [] then updateLink x (fun l => { l with snapshot := l.staged }) s
  else s

/-- R88: the content of a COMMAND burst, with the state it leaves. -/
def composeCommand (t : Time) (x : LinkNo) (s : State) : State × DownContent :=
  let l := s.link x
  match (s.exch x).consumed, l.list, l.held with
  | some dry, _, some c => (s, .command c dry)
  | some _, _, none => (s, .idle)
  | none, c :: rest, _ =>
    let s := s.setLink x { l with list := rest, held := some c }
    let s := { s with cle := { s.cle with poolFree := s.cle.poolFree + 1 } }
    let s := s.setExch x { s.exch x with consumed := some false }
    (if rest.length = l.lowMark then raiseListLow t x s else s, .command c false)
  | none, [], some c => (s.setExch x { s.exch x with consumed := some (!c.endOfMove) }, .command c (!c.endOfMove))
  | none, [], none => (s, .idle)

/-- R99: the test pattern of the frame, drawn when the pattern mark is clear. -/
def composeTest (x : LinkNo) (s : State) : State × DownContent :=
  match (s.exch x).pattern, (s.link x).test with
  | some p, _ => (s, .test p)
  | none, some test =>
    let (r, p) := drawBits 64 test.register 0#64
    let s := updateLink x (fun l => { l with test := some { test with register := r } }) s
    (s.setExch x { s.exch x with pattern := some p }, .test p)
  | none, none => (s, .idle)

/-- R87: the content of a down burst of link `x`, with the state its composition leaves. -/
def composeContent (t : Time) (x : LinkNo) (s : State) : State × DownContent :=
  let l := s.link x
  if l.health = .lost ∨ l.health = .recovering ∨ holdInForce s = true then (s, .hold)
  else
    match l.mode with
    | .test => composeTest x s
    | .service => composeCommand t x s
    | _ => (s, .idle)

/-- R86, R110: the CRANE cell at `h` in slot `t.slot` has started with a burst of check `check`. -/
def noteStarted (t : Time) (x : LinkNo) (role : Role) (h : HeadNo) (check : Word16) (s : State) : State :=
  let e := s.exch x
  let dual := match s.record x with
    | some w => w.state == .dual
    | none => false
  s.setExch x
    { e with
      started := e.started ++ [⟨h, t.slot, role, check⟩]
      targetStarted := e.targetStarted || (role == .target && dual && targetHead s x == some h) }

/-- R86: the composition of the down burst of link `x` for its CRANE cell on head `h`, at the slot start `t`. -/
def composeDown (t : Time) (x : LinkNo) (role : Role) (h : HeadNo) (s : State) : State × List Byte :=
  let s := takeSnapshot t x s
  let composed := composeContent t x s
  let fields := downFields t (composed.1.link x) composed.2
  (noteStarted t x role h (crc16 fields) composed.1, withCheck fields)

/-! ## Judging (R94 to R96) -/

/-- What a slot record holds of one head (R41): the cell, and for a cell that called for a return its return with its
source. -/
structure RecordEntry where
  cell : Cell
  ret : Option (Ret × Source)
  deriving DecidableEq, Repr

/-- The slot record's entry for a head (R29, R39, R41). -/
def Entry.close (e : Entry) : RecordEntry :=
  match e.cell with
  | .quiet | .off | .beacon => ⟨e.cell, none⟩
  | _ =>
    if e.outOfService then ⟨e.cell, some (⟨.nothing, 0#8, []⟩, .outOfService)⟩
    else if e.awaited then
      match e.ret with
      | some r => ⟨e.cell, some (r, .head)⟩
      | none => ⟨e.cell, some (⟨.nothing, 0#8, []⟩, .deadline)⟩
    else ⟨e.cell, none⟩

/-- A slot record (R41): the time of the slot and the entries of the twelve heads; `stale` as in OpenSlot. -/
structure SlotRecord where
  time : Time
  entries : Vector RecordEntry 12
  stale : Bool
  deriving DecidableEq, Repr

/-- R41: the slot record of the slot in progress. -/
def OpenSlot.record (o : OpenSlot) : SlotRecord := ⟨o.time, o.entries.map Entry.close, o.stale⟩

/-- The exchange state of the slot record's frame (R86). -/
def frameExch (r : SlotRecord) (s : State) (x : LinkNo) : Exchange := if r.stale then s.prevExch x else s.exch x

/-- `s` with the exchange state of the slot record's frame replaced. -/
def setFrameExch (r : SlotRecord) (x : LinkNo) (e : Exchange) (s : State) : State :=
  if r.stale then s.setPrevExch x e else s.setExch x e

/-- R71, R94: the slot record carries nothing for a link opened in its frame or in the current one. -/
def openedMeanwhile (r : SlotRecord) (s : State) (x : LinkNo) : Bool :=
  (s.exch x).opened || (r.stale && (s.prevExch x).opened)

/-- R94: the result of a CRANE cell of link `x` on head `h`; `Sum.inr` is a success with its valid up burst. -/
def judge (r : SlotRecord) (s : State) (x : LinkNo) (h : HeadNo) (e : RecordEntry) : CellResult ⊕ UpBurst :=
  match e.ret with
  | some (⟨.decoded, _, bytes⟩, .head) =>
    match readUp bytes with
    | none => .inl .badCheck
    | some up =>
      if up.terminal ≠ (s.link x).terminal then .inl .wrongTerminal
      else
        match (frameExch r s x).started.find? fun c => c.head == h && c.slot == r.time.slot with
        | some c => if up.status.echo = c.check then .inr up else .inl .echoMismatch
        | none => .inl .echoMismatch
  | _ => .inl .noReply

/-- R96: a CRANE ALARM notice is offered: at most two pending for a link, dropped and counted where the outbound
queue is full. -/
def offerCraneAlarm (t : Time) (x : LinkNo) (code previous : Byte) (gantry : Word16) (s : State) : State :=
  if 2 ≤ (s.link x).pendingAlarms then updateLink x (fun l => { l with alarmDrops := bump l.alarmDrops }) s
  else if hasRoom s then
    updateLink x (fun l => { l with pendingAlarms := l.pendingAlarms + 1 })
      (offerNotice (.craneAlarm x (s.link x).terminal code previous gantry t) s)
  else offerNotice (.craneAlarm x (s.link x).terminal code previous gantry t) s

/-- The alarm code of a latest status; an absent status counts as 0 (R95). -/
def alarmOf (st : Option CraneStatus) : Byte := match st with
  | some st => st.alarm
  | none => 0#8

/-- R95: a valid up burst is taken: the status replaces the latest status, quay stop is recomputed, an alarm is
offered. -/
def takeStatus (t : Time) (x : LinkNo) (st : CraneStatus) (s : State) : State :=
  let before := (s.link x).latest
  let s := recomputeStop t x (updateLink x (fun l => { l with latest := some st }) s)
  if st.alarm ≠ alarmOf before ∧ st.alarm ≠ 0#8 then offerCraneAlarm t x st.alarm (alarmOf before) st.gantry s else s

/-- The further of a result kept and a new one (R86, R97). -/
def furthest (kept : Option CellResult) (new : CellResult) : CellResult :=
  match kept with
  | some k => if new.rank ≤ k.rank then k else new
  | none => new

/-- R111: a success on this cell completes the handover: a TARGET cell of the DUAL in progress. -/
def completes (r : SlotRecord) (s : State) (x : LinkNo) (role : Role) (h : HeadNo) : Bool :=
  role == .target && (frameExch r s x).targetStarted && targetHead s x == some h &&
    (match s.record x with
     | some w => w.state == .dual
     | none => false)

/-- R94, R95, R111: one CRANE cell of link `x` with role `role` on head `h` is judged. -/
def judgeCell (r : SlotRecord) (x : LinkNo) (role : Role) (h : HeadNo) (s : State) : State :=
  let e := frameExch r s x
  match judge r s x h (r.entries.get h) with
  | .inl result => setFrameExch r x { e with best := some (furthest e.best result) } s
  | .inr up =>
    let e' := { e with best := some .success, firstUp := if e.firstUp.isSome then e.firstUp else some up }
    let completing := completes r s x role h
    let s := takeStatus r.time x up.status (setFrameExch r x e' s)
    if completing then completeHandover r.time x s else s

/-! ## Settlement (R97) -/

/-- The outcome counters after an exchange with result `result` (R97). -/
def Outcomes.count (o : Outcomes) (result : CellResult) : Outcomes :=
  let o := { o with exchanges := bump o.exchanges }
  match result with
  | .noReply => { o with noReply := bump o.noReply }
  | .badCheck => { o with badCheck := bump o.badCheck }
  | .wrongTerminal => { o with wrongTerminal := bump o.wrongTerminal }
  | .echoMismatch => { o with echoMismatch := bump o.echoMismatch }
  | .success => o

/-- The number of bits in which two patterns differ (R99). -/
def differingBits (a b : BitVec 64) : Nat := ((List.range 64).filter fun i => a.getLsbD i != b.getLsbD i).length

/-- R99: the test progress after an exchange with `errors` bit errors; complete when the number set is reached. -/
def countTestExchange (t : Time) (x : LinkNo) (errors : Nat) (s : State) : State :=
  match (s.link x).mode, (s.link x).test with
  | .test, some p =>
    let p := { p with done := p.done + 1, bitErrors := p.bitErrors + errors }
    if p.target ≤ p.done then
      raiseCrane t x (updateLink x (fun l =>
        { l with mode := .standby, test := none, testResult := some ⟨p.done, p.bitErrors, false⟩ }) s)
    else updateLink x (fun l => { l with test := some p }) s
  | _, _ => s

/-- R99: the settlement of exchange `e` of a link in TEST counts in its test. A success without a test pattern of the
frame (the test began while the exchange was in flight) is compared with a free value (log entry 2). -/
def settleTest (t : Time) (x : LinkNo) (e : Exchange) (s : State) : State :=
  match (s.link x).mode, e.best, e.firstUp with
  | .test, some .success, some up =>
    match e.pattern with
    | some p => countTestExchange t x (differingBits p up.pattern) s
    | none => countTestExchange t x (differingBits (Config.freePattern s.freeUsed) up.pattern)
        { s with freeUsed := s.freeUsed + 1 }
  | .test, _, _ => countTestExchange t x 64 s
  | _, _, _ => s

/-- R104: one settled exchange of a RECOVERING link. -/
def stepRecovery (t : Time) (x : LinkNo) (success : Bool) (s : State) : State :=
  if success then
    let n := (s.link x).recovery + 1
    if 16 ≤ n then
      setHealth t x .good (updateLink x (fun l =>
        { l with recovery := 16, score := 0, mode := if l.mode = .service then .standby else l.mode }) s)
    else updateLink x (fun l => { l with recovery := n }) s
  else enterLost t x s

/-- R102: a failure adds 8, capped at 255, a success takes 1, not below 0. -/
def nextScore (score : Nat) (success : Bool) : Nat := if success then score - 1 else min 255 (score + 8)

/-- R102 to R104: the outcome acts on score, health and recovery count. -/
def scoreOutcome (t : Time) (x : LinkNo) (success : Bool) (s : State) : State :=
  match (s.link x).health with
  | .lost => s
  | .recovering => stepRecovery t x success s
  | _ =>
    let n := nextScore (s.link x).score success
    if n = 255 then enterLost t x s
    else setHealth t x (healthOf n) (updateLink x (fun l => { l with score := n }) s)

/-- R110, R112, R119: the settlement of exchange `e` acts on the handover state. -/
def settleHandover (t : Time) (x : LinkNo) (e : Exchange) (s : State) : State :=
  match s.record x with
  | none => s
  | some w =>
    match w.state with
    | .dual => if e.targetStarted then stepDual t x w s else s
    | .candidate =>
      if w.forced then (if (s.link x).health = .lost then unplace t x s else attemptForced x s) else s
    | .settled => s

/-- R97: the settlement of the exchange `e` of link `x` with furthest result `result`, in its order. -/
def settle (t : Time) (x : LinkNo) (e : Exchange) (result : CellResult) (s : State) : State :=
  let success := result == .success
  let s := updateLink x (fun l => { l with outcomes := l.outcomes.count result, farEnd := !success }) s
  settleHandover t x e (scoreOutcome t x success (settleTest t x e s))

/-- The cell is a CRANE cell of link `x`. -/
def isCraneOf (x : LinkNo) (c : Cell) : Bool := match c with
  | .crane y _ => y == x
  | _ => false

/-- R97: link `x` holds in the current map a CRANE cell whose slot has not closed. -/
def unclosedCell (s : State) (x : LinkNo) : Bool :=
  (List.finRange 12).any fun h => (List.finRange 24).any fun sl =>
    isCraneOf x (s.cell h sl) &&
      (unstarted s sl || (s.now.slot == sl &&
        (match s.hp.openSlot with
         | some o => !o.stale
         | none => false)))

/-- R97: the exchange of the record's frame is settled at this slot close when no CRANE cell of the link is left
unclosed in that frame. -/
def settleAtClose (r : SlotRecord) (x : LinkNo) (s : State) : State :=
  let e := frameExch r s x
  match e.best with
  | none => s
  | some result =>
    if e.settled || (!r.stale && unclosedCell s x) then s
    else settle r.time x e result (setFrameExch r x { e with settled := true } s)

/-- R97: the exchange of the current frame is settled in another event, when a release has turned the last unclosed
CRANE cell of link `x` QUIET after at least one of its cells has closed. -/
def settleAfterRelease (t : Time) (x : LinkNo) (s : State) : State :=
  let e := s.exch x
  match e.best with
  | none => s
  | some result =>
    if e.settled || (s.link x).mode == .closed || unclosedCell s x then s
    else settle t x e result (s.setExch x { e with settled := true })

/-- The heads on which a slot record carries a CRANE cell of link `x` with role `role`, ascending. -/
def craneHeads (r : SlotRecord) (x : LinkNo) (role : Role) : List HeadNo :=
  (List.finRange 12).filter fun h => (r.entries.get h).cell == .crane x role

/-- R94 to R97 for link `x` at a slot close: its cells are judged, PRIMARY before TARGET, and its exchange is
settled. -/
def closeExchange (r : SlotRecord) (x : LinkNo) (s : State) : State :=
  if (s.link x).mode == .closed || openedMeanwhile r s x then s
  else
    match craneHeads r x .primary, craneHeads r x .target with
    | [], [] => s
    | ps, ts => settleAtClose r x (forEach ts (judgeCell r x .target) (forEach ps (judgeCell r x .primary) s))

end Sys2Proof.Machine
end

