-- ==== Sys2Proof/Machine/Heads.lean ====
section
/-! DEFINITION. Radio heads: loss while serving (R28, R114 to R116), status records (R26), the status window (R27),
drains (R32 to R35, R118 to R120), returns (R39, R40) and the head link receiver (R177). -/

namespace Sys2Proof.Machine

/-! ## Loss while serving -/

/-- The handover state of link `x` is DUAL. -/
def inDual (s : State) (x : LinkNo) : Bool := match s.record x with
  | some w => w.state == .dual
  | none => false

/-- R114 to R116: what the loss of head `h` does to link `x`; an exchange whose last cell it turned QUIET is settled
(R97). -/
def loseHeadOfLink (t : Time) (h : HeadNo) (x : LinkNo) (s : State) : State :=
  if servingHead s x = some h then
    settleAfterRelease t x (if inDual s x then completeHandover t x s else emergencyMove t x s)
  else if targetHead s x = some h then settleAfterRelease t x (dropTarget t x s)
  else s

/-- R28: head `h` is lost while serving and enters `state` (ABSENT or FAULT), one event. -/
def loseHead (t : Time) (h : HeadNo) (state : HeadState) (s : State) : State :=
  let r := s.head h
  let r := { r with state := state, restorePending := false,
                    drainTimer := if r.state = .draining then 0 else r.drainTimer,
                    drainOutcome := if r.state = .draining then .cancelled else r.drainOutcome }
  let s := invalidateQuality h (takeOutOfService h (s.setHead h r))
  raiseHead t h (unhome h (forLinks (loseHeadOfLink t h) s))

/-- A head leaves for ABSENT or FAULT: by a loss from ON or DRAINING (R28), plainly from another state (R26, R27). -/
def headDown (t : Time) (h : HeadNo) (state : HeadState) (s : State) : State :=
  if inService s h then loseHead t h state s
  else raiseHead t h (s.setHead h { s.head h with state := state, restorePending := false })

/-! ## Status records and the status window -/

/-- R26 step 1: the serial number. -/
def takeSerial (t : Time) (h : HeadNo) (serial : Word32) (s : State) : State :=
  if (s.head h).serial = some serial then s
  else raiseHead t h (s.setHead h { s.head h with serial := some serial })

/-- R26 step 2: the frame counts; the link-up count is held at 2. -/
def countStatus (h : HeadNo) (s : State) : State :=
  let r := s.head h
  if r.statusSeen then s
  else s.setHead h { r with statusSeen := true, missed := 0,
                            linkUp := if r.state = .absent then min 2 (r.linkUp + 1) else r.linkUp }

/-- R26: an ABSENT head whose link-up count is now 2 becomes OFF or FAULT. -/
def linkUp (t : Time) (h : HeadNo) (fault : Bool) (s : State) : State :=
  raiseHead t h (s.setHead h { s.head h with state := if fault then .fault else .off, linkUp := 0 })

/-- R26 step 3: the record acts on the head's state. -/
def statusState (t : Time) (h : HeadNo) (fault : Bool) (s : State) : State :=
  match (s.head h).state, fault with
  | .absent, _ => if (s.head h).linkUp = 2 then linkUp t h fault s else s
  | .off, true | .on, true | .draining, true => headDown t h .fault s
  | .fault, false => raiseHead t h (s.setHead h { s.head h with state := .off })
  | _, _ => s

/-- R26: a head status record is taken at the head's record. -/
def takeStatusRecord (t : Time) (h : HeadNo) (serial : Word32) (fault : Bool) (s : State) : State :=
  statusState t h fault (countStatus h (takeSerial t h serial s))

/-- R27: the head's missed count rises; with the third miss a head that is not ABSENT becomes ABSENT. -/
def missStatus (t : Time) (h : HeadNo) (s : State) : State :=
  let r := s.head h
  let s := s.setHead h { r with missed := min 3 (r.missed + 1), linkUp := 0 }
  if 3 ≤ r.missed + 1 ∧ r.state ≠ .absent then headDown t h .absent s else s

/-- R27: the close of the head's status window. -/
def closeStatusWindow (t : Time) (h : HeadNo) (s : State) : State :=
  if (s.head h).statusSeen then s.setHead h { s.head h with statusSeen := false } else missStatus t h s

/-! ## Drains -/

/-- R120: a drain of head `h` ended without completion: link `x` served on it, where it is. -/
def drainEndedOfLink (h : HeadNo) (x : LinkNo) (s : State) : State :=
  if servingHead s x = some h then
    updateRecord x (fun w =>
      match w.state with
      | .dual => { w with forced := false }
      | .candidate =>
        if w.forced then { w with state := .settled, candidate := none, trigger := 0, forced := false } else w
      | .settled => w) s
  else s

/-- R120: a drain of head `h` ended without completion. -/
def drainEnded (h : HeadNo) (s : State) : State := forLinks (drainEndedOfLink h) s

/-- R35: the drain of head `h` expires. -/
def expireDrain (t : Time) (h : HeadNo) (s : State) : State :=
  let s := s.setHead h { s.head h with state := .on, drainTimer := 0, drainOutcome := .failed (naming s h).length }
  drainEnded h (raiseHead t h s)

/-- R33: the drain timer of a DRAINING head falls by one; at 0 the drain expires. DESIGN CHOICE (log entry 34): a close
of slot 23 taken after the next frame start lowers also the timer of a drain that began between the two, so the frame
of that HEAD RETIRE is then not the first one counted. -/
def tickDrain (t : Time) (h : HeadNo) (s : State) : State :=
  let r := s.head h
  if r.state = .draining then
    if r.drainTimer ≤ 1 then expireDrain t h s else s.setHead h { r with drainTimer := r.drainTimer - 1 }
  else s

/-- R118: what the start of a drain of head `h` does to link `x`. -/
def drainStartOfLink (t : Time) (h : HeadNo) (x : LinkNo) (s : State) : State :=
  if servingHead s x = some h then
    if (s.link x).health = .lost then settleAfterRelease t x (unplace t x s)
    else if inDual s x then updateRecord x (fun w => { w with forced := true }) s
    else attemptForced x s
  else if targetHead s x = some h then settleAfterRelease t x (dropTarget t x s)
  else s

/-- R32, R118, R34: head `h` starts to drain. -/
def startDrain (t : Time) (h : HeadNo) (s : State) : State :=
  let s := s.setHead h { s.head h with state := .draining, drainTimer := Config.drainFrames }
  testDrain t h (forLinks (drainStartOfLink t h) s)

/-! ## Returns -/

/-- R40, R177: a return as it enters the slot record. -/
def readRet (result level : Byte) (bytes : List Byte) : Ret :=
  match result.toNat with
  | 1 => if bytes = [] then ⟨.garbled, level, []⟩ else ⟨.decoded, level, bytes⟩
  | 3 => ⟨.nothing, 0#8, []⟩
  | _ => ⟨.garbled, level, []⟩

/-- R39: the return names the slot in progress. -/
def namesSlot (o : OpenSlot) (mf : Word16) (frame slot : Byte) : Bool :=
  o.time.mf == mf && o.time.frame.1 == frame.toNat && o.time.slot.1 == slot.toNat

/-- R39: the discarded return is counted. -/
def countLate (h : HeadNo) (s : State) : State :=
  s.setHead h { s.head h with lateReturns := bump (s.head h).lateReturns }

/-- R39: a return is taken as it arrives: it fills its open entry, or is late, unmatched or repeated. A return of a
head that left service during the slot does not fill its entry (R29, log entry 18). -/
def takeReturn (h : HeadNo) (mf : Word16) (frame slot result level : Byte) (bytes : List Byte) (s : State) : State :=
  match s.hp.openSlot with
  | none => countLate h s
  | some o =>
    let e := o.entries.get h
    if namesSlot o mf frame slot && e.awaited && e.ret.isNone then
      if e.outOfService then s
      else
        let filled := put o.entries h { e with ret := some (readRet result level bytes) }
        { s with hp := { s.hp with openSlot := some { o with entries := filled } } }
    else countLate h s

/-! ## The head link receiver -/

/-- A complete message of head `h` acts (R24); a slot order from a head is no message for the DQ720 (log entry 19). -/
def takeHeadMessage (h : HeadNo) (m : HeadMessage) (s : State) : State :=
  match m with
  | .order => s
  | .ret mf frame slot result level bytes => takeReturn h mf frame slot result level bytes s
  | .status serial fault => takeStatusRecord s.now h serial fault s

/-- `s` with the bytes in reception on head link `h` replaced. -/
def setHeadRx (h : HeadNo) (bytes : List Byte) (s : State) : State :=
  { s with hp := { s.hp with rx := put s.hp.rx h bytes } }

/-- R177: a byte arrives on head link `h`. -/
def headByte (h : HeadNo) (b : Byte) (s : State) : State :=
  let bytes := s.hp.rx.get h ++ [b]
  let scanned := scan (bytes.length + 1) bytes
  forEach scanned.1 (takeHeadMessage h) (setHeadRx h scanned.2 s)

end Sys2Proof.Machine
end

