-- ==== Sys2Proof/Machine/Registry.lean ====
section
/-! DEFINITION. The Reefer Registry and the Report Unit: filters (R123), arrivals (R127 to R130), report processing
(R141 to R148), the ack, report and alarm queues (R149, R151, R152, R154), polls (R134), ageing (R132) and the
backoff exponent (R155). -/

namespace Sys2Proof.Machine

/-! ## The Report Unit's queues -/

/-- R149: a pair joins the ack queue; the oldest is discarded when it is full. -/
def enqueueAck (a : Ack) (s : State) : State :=
  if Config.ackCapacity ≤ s.rep.acks.length then
    { s with rep := { s.rep with acks := s.rep.acks.drop 1 ++ [a], ackLoss := bump s.rep.ackLoss } }
  else { s with rep := { s.rep with acks := s.rep.acks ++ [a] } }

/-- R154: an alarm record joins the alarm queue, or is counted as overflow. -/
def enqueueAlarm (t : Time) (r : AlarmRecord) (s : State) : State :=
  if Config.alarmCapacity ≤ s.rep.alarms.length then
    { s with rep := { s.rep with alarmOverflow := bump s.rep.alarmOverflow } }
  else
    let s' : State := { s with rep := { s.rep with alarms := s.rep.alarms ++ [r] } }
    if s.rep.alarms = [] then raisePlain t .alarms s' else s'

/-- R152: REPORTS is raised when a record joins and the depth rises to the threshold. -/
def joinReport (t : Time) (r : ReportRecord) (s : State) : State :=
  let depth := s.rep.reports.length
  let s' : State := { s with rep := { s.rep with reports := s.rep.reports ++ [r] } }
  if depth < s.rep.threshold ∧ s.rep.threshold ≤ depth + 1 then raisePlain t .reports s' else s'

/-- R151, R147: a record of entry `r.index` is handed to the Report Unit. When it is queued the gap flag is taken
from the entry, and the delivered snapshot becomes `snap` where one is given; when the queue is full the entry's
gap-pending is set and the overflow counted. -/
def enqueueReport (t : Time) (r : ReportRecord) (snap : Option Snapshot) (s : State) : State :=
  let e := s.unit r.index
  if Config.reportCapacity ≤ s.rep.reports.length then
    let s := s.setUnit r.index { e with gapPending := true }
    { s with rep := { s.rep with overflow := bump s.rep.overflow } }
  else
    joinReport t { r with gap := e.gapPending }
      (s.setUnit r.index { e with gapPending := false, snapshot := if snap.isSome then snap else e.snapshot })

/-! ## Alarms (R144 to R146) -/

/-- R146: a live alarm of entry `u` is set; going from clear to set it is latched and an alarm record is handed on. -/
def setLive (t : Time) (u : UnitNo) (k : AlarmKind) (s : State) : State :=
  let e := s.unit u
  if e.live &&& k.bit = 0#4 then
    enqueueAlarm t ⟨e.unitId, u, k, t, e.readings⟩
      (s.setUnit u { e with live := e.live ||| k.bit, latched := e.latched ||| k.bit })
  else s

/-- A live alarm of entry `u` is cleared; the latched alarms stand (R146). -/
def clearLive (u : UnitNo) (k : AlarmKind) (s : State) : State :=
  s.setUnit u { s.unit u with live := (s.unit u).live &&& ~~~k.bit }

/-- A live alarm of entry `u` is set or cleared. -/
def judgeLive (t : Time) (u : UnitNo) (k : AlarmKind) (set : Bool) (s : State) : State :=
  if set then setLive t u k s else clearLive u k s

/-! ## Processing a report (R141 to R147) -/

/-- A stored temperature: clamped to −500..500 (R143). -/
def clampTemperature (v : Int) : Int := clampInt (-500) 500 v

/-- The supply sensor is marked absent (R143). -/
def sensorAbsent (b : ReportBurst) : Bool := b.supply == -2048

/-- Some temperature of the report is clamped (R143). -/
def anyClamped (b : ReportBurst) : Bool :=
  (!sensorAbsent b && clampTemperature b.supply != b.supply) || clampTemperature b.ret != b.ret ||
    clampTemperature b.setpoint != b.setpoint

/-- R143: the readings stored from a report that is not suspect. -/
def storedReadings (old : Option Readings) (b : ReportBurst) (p : Power) : Readings where
  supply := if sensorAbsent b then old.bind (·.supply) else some (clampTemperature b.supply)
  ret := clampTemperature b.ret
  setpoint := clampTemperature b.setpoint
  power := p
  alarm := b.alarm

/-- R145: the stored supply lies outside the excursion limit of the setpoint. -/
def outsideLimit (limit : Nat) (r : Readings) : Bool := match r.supply with
  | some v => decide (limit < (v - r.setpoint).natAbs)
  | none => false

/-- R145: the excursion run after a report with a supply. -/
def nextRun (run : Nat) (outside : Bool) : Nat := if outside then min 2 (run + 1) else 0

/-- The age of a multiframe number at `now` (00_scope.md 5.3). -/
def ageOf (now since : Word16) : Nat := (now - since).toNat

/-- R147: the supply condition of thinning. -/
def supplyMoved (deadband : Nat) (stored delivered : Option Int) : Bool :=
  match stored, delivered with
  | some a, some b => decide (deadband ≤ (a - b).natAbs)
  | none, none => false
  | _, _ => true

/-- R147: the report is queued for the host. -/
def forwards (p : Profile) (mf : Word16) (r : Readings) (snap : Option Snapshot) : Bool :=
  match snap with
  | none => true
  | some d =>
    supplyMoved p.deadband r.supply d.supply || r.setpoint != d.setpoint || r.power != d.power ||
      r.alarm != d.alarm || decide (p.forward ≤ ageOf mf d.mf)

/-- The profile of an entry, as it stands (R125). -/
def profileOf (s : State) (u : UnitNo) : Profile := s.reg.profiles.get (s.unit u).profile

/-- R151: the report record of a burst, its gap flag still to be set. -/
def reportRecord (t : Time) (u : UnitNo) (h : HeadNo) (level : Byte) (b : ReportBurst) (readings : RecordReadings)
    (clamped absent suspect : Bool) : ReportRecord where
  unitId := b.unitId
  index := u
  kind := b.kind
  seq := b.seq
  time := t
  head := h
  level := level
  readings := readings
  clamped := clamped
  sensorAbsent := absent
  suspect := suspect
  gap := false

/-- R142: a suspect report: the record carries the readings as received, with the clamped and sensor-absent flags
clear (log entry 32). -/
def processSuspect (t : Time) (u : UnitNo) (h : HeadNo) (level : Byte) (b : ReportBurst) (s : State) : State :=
  enqueueReport t (reportRecord t u h level b ⟨some b.supply, b.ret, b.setpoint, b.power, b.alarm⟩ false false true)
    none s

/-- R143: step 1 of R141, the readings are clamped and stored. -/
def storeReadings (u : UnitNo) (b : ReportBurst) (p : Power) (s : State) : State :=
  let e := s.unit u
  s.setUnit u { e with readings := some (storedReadings e.readings b p), clamped := anyClamped b,
                       sensorAbsent := sensorAbsent b }

/-- R145: step 3 of R141, not made when the current report has the supply sensor absent. -/
def judgeExcursion (t : Time) (u : UnitNo) (b : ReportBurst) (r : Readings) (s : State) : State :=
  if sensorAbsent b then s
  else
    let run := nextRun (s.unit u).run (outsideLimit (profileOf s u).excursion r)
    let s := s.setUnit u { s.unit u with run := run }
    if run = 2 then setLive t u .excursion s else if run = 0 then clearLive u .excursion s else s

/-- R147: step 5 of R141, the report is queued or absorbed. -/
def thin (t : Time) (u : UnitNo) (h : HeadNo) (level : Byte) (b : ReportBurst) (r : Readings) (s : State) : State :=
  let e := s.unit u
  if forwards (profileOf s u) t.mf r e.snapshot then
    enqueueReport t
      (reportRecord t u h level b ⟨r.supply, r.ret, r.setpoint, r.power.code, r.alarm⟩ e.clamped e.sensorAbsent false)
      (some ⟨r.supply, r.setpoint, r.power, r.alarm, t.mf⟩) s
  else s

/-- R141: a report is processed into entry `u`. The alarm records of one report are handed on in the order POWER,
UNIT, EXCURSION (R146). -/
def processReport (t : Time) (u : UnitNo) (h : HeadNo) (level : Byte) (b : ReportBurst) (s : State) : State :=
  match b.innerOk, readPower b.power with
  | true, some p =>
    let r := storedReadings (s.unit u).readings b p
    let s := storeReadings u b p s
    let s := judgeLive t u .power (p == .off) s
    let s := judgeLive t u .unit (b.alarm != 0#8) s
    thin t u h level b r (judgeExcursion t u b r s)
  | _, _ => processSuspect t u h level b s

/-! ## Arrivals (R123, R127 to R130) -/

/-- R123: filter `i` matches a unit id under its mask. -/
def filterMatches (s : State) (i : Fin 8) (id : Word32) : Bool :=
  let f := s.reg.filters.get i
  let mask := if i.1 < 6 then s.reg.mask else f.ownMask
  f.enabled && id &&& mask == f.pattern &&& mask

/-- R123: the profile under which a unit id is accepted; none when it is refused as foreign. -/
def acceptedProfile (s : State) (id : Word32) : Option (Fin 4) :=
  match (List.finRange 8).find? (filterMatches s · id) with
  | some i => if (s.reg.filters.get i).action = .accept then some (s.reg.filters.get i).profile else none
  | none => none

/-- `q` without `u`. -/
def leaveQueue (u : UnitNo) (q : List UnitNo) : List UnitNo := q.filter (· != u)

/-- R128: an acknowledged arrival: the pair is queued, last heard and last level are set. -/
def acknowledge (t : Time) (u : UnitNo) (level : Byte) (b : ReportBurst) (s : State) : State :=
  enqueueAck ⟨b.unitId, b.seq⟩ (s.setUnit u { s.unit u with lastHeard := t.mf, lastLevel := level })

/-- R129 step 1: the JOIN of a unit that has its own entry. -/
def joinOwn (u : UnitNo) (h : HeadNo) (p : Fin 4) (b : ReportBurst) (s : State) : State :=
  let e := s.unit u
  (s.setUnit u { e with state := .listed, serving := some h, profile := p, lastSeq := b.seq, goneSince := none,
                        live := e.live &&& ~~~AlarmKind.silent.bit, snapshot := none }).setPollQueue
    (leaveQueue u s.reg.pollQueue)

/-- R129: an entry taken in step 2 or 3 is filled afresh. -/
def joinFresh (u : UnitNo) (h : HeadNo) (p : Fin 4) (b : ReportBurst) (s : State) : State :=
  s.setUnit u { UnitEntry.free with state := .listed, unitId := b.unitId, serving := some h, profile := p,
                                    lastSeq := b.seq }

/-- R129 step 2: the FREE entry of lowest index. -/
def freeEntry (s : State) : Option UnitNo := (List.finRange 1024).find? fun u => (s.unit u).state == .free

/-- The gone age of a GONE entry. -/
def goneAge (now : Word16) (e : UnitEntry) : Option Nat := match e.state, e.goneSince with
  | .gone, some since => some (ageOf now since)
  | _, _ => none

/-- The better of two entries for R129 step 3: the larger gone age, of equal ages the lower index. -/
def olderGone (now : Word16) (s : State) (best : Option (UnitNo × Nat)) (u : UnitNo) : Option (UnitNo × Nat) :=
  match goneAge now (s.unit u), best with
  | none, _ => best
  | some a, none => some (u, a)
  | some a, some (v, c) => if c < a then some (u, a) else some (v, c)

/-- R129 step 3: the entry that has been GONE longest at `now`, the present multiframe, also for an arrival of a slot
that closes after the boundary. -/
def goneEntry (now : Word16) (s : State) : Option UnitNo :=
  ((List.finRange 1024).foldl (olderGone now s) none).map (·.1)

/-- A JOIN admitted into entry `u` is acknowledged, and its readings are processed (R128, R129). -/
def admitJoin (t : Time) (u : UnitNo) (h : HeadNo) (level : Byte) (b : ReportBurst) (s : State) : State :=
  processReport t u h level b (acknowledge t u level b s)

/-- R129: a JOIN arrival on head `h`, accepted with profile `p`. -/
def arriveJoin (t : Time) (h : HeadNo) (level : Byte) (p : Fin 4) (b : ReportBurst) (s : State) : State :=
  match findUnit s b.unitId with
  | some u => admitJoin t u h level b (joinOwn u h p b s)
  | none =>
    match freeEntry s with
    | some u => admitJoin t u h level b (joinFresh u h p b s)
    | none =>
      match goneEntry s.now.mf s with
      | some u => admitJoin t u h level b (joinFresh u h p b s)
      | none => raisePlain t .table { s with reg := { s.reg with refusedJoins := bump s.reg.refusedJoins } }

/-- R130: the entry of an arrival is homed on `h` and listed. On leaving SILENT or GONE live SILENT is cleared. -/
def relist (u : UnitNo) (h : HeadNo) (s : State) : State :=
  let e := s.unit u
  let live := if e.state = .silent ∨ e.state = .gone then e.live &&& ~~~AlarmKind.silent.bit else e.live
  let since := if e.state = .listed then e.goneSince else none
  (s.setUnit u { e with state := .listed, serving := some h, goneSince := since, live := live }).setPollQueue
    (leaveQueue u s.reg.pollQueue)

/-- R130: a PERIODIC or POLLED arrival on head `h`. -/
def arriveReport (t : Time) (h : HeadNo) (level : Byte) (b : ReportBurst) (s : State) : State :=
  match findUnit s b.unitId with
  | none => { s with reg := { s.reg with stray := bump s.reg.stray } }
  | some u =>
    let s := acknowledge t u level b (relist u h s)
    if b.seq = (s.unit u).lastSeq then s
    else processReport t u h level b (s.setUnit u { s.unit u with lastSeq := b.seq })

/-! ## Polls (R134) -/

/-- Entry `u` becomes SILENT and leaves the poll queue, with live SILENT set (R132, R134). -/
def goSilent (t : Time) (u : UnitNo) (s : State) : State :=
  setLive t u .silent
    ((s.setUnit u { s.unit u with state := .silent }).setPollQueue (leaveQueue u s.reg.pollQueue))

/-- R134: an unanswered poll of entry `u`, which is POLLING. -/
def countUnanswered (t : Time) (u : UnitNo) (s : State) : State :=
  let n := (s.unit u).attempts + 1
  let s' := s.setUnit u { s.unit u with attempts := min 7 n }
  if (profileOf s u).attempts ≤ n then goSilent t u s'
  else s'.setPollQueue (leaveQueue u s.reg.pollQueue ++ [u])

/-- R134: an unanswered poll acts on the entry at the cell's index when it still holds the cell's unit id and is
POLLING. -/
def unanswered (t : Time) (u : UnitNo) (id : Word32) (s : State) : State :=
  if (s.unit u).state = .polling ∧ (s.unit u).unitId = id then countUnanswered t u s else s

/-- What a slot record says in a POLL cell without an arrival of the addressed unit. -/
def missPoll (t : Time) (c : Cell) (s : State) : State := match c with
  | .poll u id => unanswered t u id s
  | _ => s

/-! ## The slot record at the Registry (R127) -/

/-- The cell is POLL or CONTENTION. -/
def isReeferCell : Cell → Bool
  | .poll _ _ => true
  | .contention => true
  | _ => false

/-- The burst of a reefer cell that passes the outer test, with its level (R127). -/
def goodBurst (r : SlotRecord) (h : HeadNo) : Option (ReportBurst × Byte) :=
  let e := r.entries.get h
  if isReeferCell e.cell then
    match e.ret with
    | some (⟨.decoded, level, bytes⟩, .head) => (readReport bytes).map (·, level)
    | _ => none
  else none

/-- R127: the burst on head `h` is heard better on head `g` in the same slot record. -/
def betterHeard (r : SlotRecord) (h g : HeadNo) : Bool :=
  match goodBurst r h, goodBurst r g with
  | some (b, l), some (c, m) =>
    b.unitId == c.unitId && (decide (l.toNat < m.toNat) || (l == m && decide (g < h)))
  | _, _ => false

/-- R127: the burst on head `h` is discarded in favour of a better hearing. -/
def discarded (r : SlotRecord) (h : HeadNo) : Bool := (List.finRange 12).any (betterHeard r h)

/-- R42: the entry is a garbled result of a CONTENTION cell: source HEAD, and result GARBLED or a burst that fails the
outer test of R127, which the Registry reports at the same slot close. -/
def garbledResult (e : RecordEntry) : Bool :=
  match e with
  | ⟨.contention, some (⟨.garbled, _, _⟩, .head)⟩ => true
  | ⟨.contention, some (⟨.decoded, _, bytes⟩, .head)⟩ => (readReport bytes).isNone
  | _ => false

/-- R42: the garbled count of head `h` rises with a garbled result of its CONTENTION cell. -/
def countGarbled (r : SlotRecord) (h : HeadNo) (s : State) : State :=
  if garbledResult (r.entries.get h) then s.setHead h { s.head h with garbled := (s.head h).garbled + 1 } else s

/-- R127: a burst that fails the outer test; in a CONTENTION cell it is also a garbled result (`garbledResult`). -/
def failOuter (r : SlotRecord) (c : Cell) (s : State) : State :=
  missPoll r.time c { s with reg := { s.reg with outerFails := bump s.reg.outerFails } }

/-- The cell is a POLL cell that addresses unit `id`. -/
def addresses (c : Cell) (id : Word32) : Bool := match c with
  | .poll _ i => i == id
  | _ => false

/-- R127: a burst taken is filtered; an accepted one is an arrival. A burst from another unit, or a refused one,
leaves the poll of a POLL cell unanswered (R134). DESIGN CHOICE (log entry 36): the rules give no order of the arrival
of another unit and the unanswered poll; the arrival is taken first. -/
def takeBurst (r : SlotRecord) (h : HeadNo) (c : Cell) (b : ReportBurst) (level : Byte) (s : State) : State :=
  match acceptedProfile s b.unitId with
  | none => missPoll r.time c { s with reg := { s.reg with foreign := bump s.reg.foreign } }
  | some p =>
    let s := if b.kind = .join then arriveJoin r.time h level p b s else arriveReport r.time h level b s
    if addresses c b.unitId then s else missPoll r.time c s

/-- R127: one reefer entry of a slot record, in its turn. A burst discarded in favour of a better hearing leaves its
poll to `missDiscarded`, after the better hearing's arrival (R134). -/
def takeReefer (r : SlotRecord) (h : HeadNo) (s : State) : State :=
  let e := r.entries.get h
  if isReeferCell e.cell then
    match e.ret with
    | some (⟨.decoded, level, bytes⟩, .head) =>
      match readReport bytes with
      | none => failOuter r e.cell s
      | some b => if discarded r h then s else takeBurst r h e.cell b level s
    | some (_, .head) | some (_, .deadline) => missPoll r.time e.cell s
    | _ => s
  else s

/-- R134: the poll of a cell whose burst was discarded as heard better on another head is unanswered. -/
def missDiscarded (r : SlotRecord) (h : HeadNo) (s : State) : State :=
  if discarded r h then missPoll r.time (r.entries.get h).cell s else s

/-- R127: the Registry takes a slot record, in ascending head number. -/
def registryTakes (r : SlotRecord) (s : State) : State := forHeads (missDiscarded r) (forHeads (takeReefer r) s)

/-! ## Ageing at a multiframe boundary (R132, R148) -/

/-- R132: a LISTED entry becomes POLLING and joins the tail of the poll queue. -/
def startPolling (u : UnitNo) (s : State) : State :=
  (s.setUnit u { s.unit u with state := .polling, attempts := 0 }).setPollQueue
    (leaveQueue u s.reg.pollQueue ++ [u])

/-- R132: a SILENT entry becomes GONE. -/
def goGone (t : Time) (u : UnitNo) (s : State) : State :=
  raisePlain t .table (s.setUnit u { s.unit u with state := .gone, goneSince := some t.mf })

/-- The age of entry `u` at time `t` (R132). -/
def unitAge (t : Time) (s : State) (u : UnitNo) : Nat := ageOf t.mf (s.unit u).lastHeard

/-- R132: the entry is due to become SILENT by age. -/
def silentDue (t : Time) (s : State) (u : UnitNo) : Bool :=
  ((s.unit u).state == .listed || (s.unit u).state == .polling) &&
    decide (4 * (profileOf s u).report < unitAge t s u)

/-- R132: the entry is due to become POLLING. -/
def pollingDue (t : Time) (s : State) (u : UnitNo) : Bool :=
  (s.unit u).state == .listed && !silentDue t s u && decide ((profileOf s u).report + 2 < unitAge t s u)

/-- R132: the entry is due to become GONE. -/
def goneDue (t : Time) (s : State) (u : UnitNo) : Bool :=
  (s.unit u).state == .silent && decide ((profileOf s u).gone < unitAge t s u)

/-- A multiframe number pinned so that its age stands at 32767 (R129, R148). -/
def pinned (now : Word16) : Word16 := now - 32767#16

/-- R129: gone-since of a GONE entry whose age reaches 32767 is pinned. -/
def pinGone (now : Word16) (e : UnitEntry) : UnitEntry := match goneAge now e with
  | some a => if 32767 ≤ a then { e with goneSince := some (pinned now) } else e
  | none => e

/-- R148: the delivery multiframe of a snapshot whose age reaches 32767 is pinned. -/
def pinDelivery (now : Word16) (e : UnitEntry) : UnitEntry := match e.snapshot with
  | some d => if 32767 ≤ ageOf now d.mf then { e with snapshot := some { d with mf := pinned now } } else e
  | none => e

/-- R132: the one change an entry makes at a boundary. -/
def ageState (t : Time) (u : UnitNo) (s : State) : State :=
  if silentDue t s u then goSilent t u s
  else if pollingDue t s u then startPolling u s
  else if goneDue t s u then goGone t u s
  else s.setUnit u (pinGone t.mf (s.unit u))

/-- R132, R148: the examination of entry `u` at a boundary. -/
def ageUnit (t : Time) (u : UnitNo) (s : State) : State :=
  if (s.unit u).state = .free then s
  else
    let s := ageState t u s
    s.setUnit u (pinDelivery t.mf (s.unit u))

/-- R132: every entry is examined, in ascending index. -/
def ageRegistry (t : Time) (s : State) : State := forUnits (ageUnit t) s

/-! ## The backoff exponent (R155) -/

/-- The sum of a count over all heads. -/
def sumHeads (s : State) (f : HeadRecord → Nat) : Nat := ((List.finRange 12).map fun h => f (s.head h)).sum

/-- R155: the exponent after a multiframe with `c` cells offered and `g` garbled. -/
def nextExponent (e : Fin 8) (c g : Nat) : Fin 8 :=
  if c = 0 then e
  else if c < 4 * g then ⟨min 7 (e.1 + 1), by omega⟩
  else if 16 * g < c then ⟨e.1 - 1, by omega⟩
  else e

/-- R155: the Report Unit computes the exponent that follows `e` from the last counts of all heads. -/
def exponentAfter (e : Fin 8) (s : State) : State :=
  let c := sumHeads s (·.offeredLast)
  let g := sumHeads s (·.garbledLast)
  { s with rep := { s.rep with exponent := nextExponent e c g, lastOffered := c, lastGarbled := g } }

/-- R155: the computation at a multiframe boundary. -/
def updateExponent (s : State) : State := exponentAfter s.rep.exponent s

/-- R42: at a boundary the current counts of every head become its last counts. -/
def rollCounts (s : State) : State :=
  { s with hp := { s.hp with heads := s.hp.heads.map fun r =>
    { r with offeredLast := r.offered, garbledLast := r.garbled, offered := 0, garbled := 0 } } }

/-! ## A slot that closes after its multiframe's boundary (R42, R158, log entry 20) -/

/-- The heads whose entry is a garbled result, as bits. -/
def garbledHeads (r : SlotRecord) : BitVec 12 :=
  (List.finRange 12).foldl (fun m h => if garbledResult (r.entries.get h) then addMember m h.1 else m) 0#12

/-- R42: the last garbled count of head `h` is what its record makes it, whatever the boundary counted of the slot. -/
def recountHead (r : SlotRecord) (counted : BitVec 12) (h : HeadNo) (s : State) : State :=
  let e := s.head h
  let closed := if garbledResult (r.entries.get h) then 1 else 0
  let before := if counted.getLsbD h.1 then 1 else 0
  s.setHead h { e with garbledLast := e.garbledLast + closed - before }

/-- R42, R158: the close of a slot whose multiframe's boundary was taken first leaves the last counts, their sums, the
exponent and the beacon, which is still to be sent, as the other order leaves them. -/
def recount (b : Rolled) (r : SlotRecord) (s : State) : State :=
  let s := exponentAfter b.exponent (forHeads (recountHead r b.counted) s)
  { s with fs := { s.fs with beacon := { s.fs.beacon with exponent := s.rep.exponent } } }

end Sys2Proof.Machine
end

