-- ==== Sys2Proof/Machine/AirTime.lean ====
section
/-! DEFINITION. Air time: the frame start (R1, R16), the slot start (R38) and the slot close (R41). -/

namespace Sys2Proof.Machine

/-! ## Frame start -/

/-- R1, R2: the time of the frame that starts; the first frame start after RESETN's rise opens frame 0 of
multiframe 0. -/
def nextFrame (s : State) : Time :=
  if s.fs.airStarted then
    if s.now.frame.1 = 15 then ⟨s.now.mf + 1#16, 0, 0⟩ else ⟨s.now.mf, s.now.frame + 1, 0⟩
  else s.now

/-- R1: the frame start is a multiframe boundary: the frame number left 15. -/
def atBoundary (s : State) : Bool := s.fs.airStarted && s.now.frame.1 == 15

/-- The counters name the new frame, and no slot of it has started (R1). -/
def advanceFrame (s : State) : State :=
  { s with fs := { s.fs with now := nextFrame s, airStarted := true, slotStarted := false } }

/-- R31 and R29 in one record: a pending restore takes effect, and the out-of-service mark ends with its frame. -/
def HeadRecord.atFrameStart (r : HeadRecord) : HeadRecord :=
  { r with state := if r.restorePending then .on else r.state, restorePending := false, outOfService := false }

/-- R31: every head with restore pending becomes ON. -/
def takeRestores (s : State) : State :=
  { s with hp := { s.hp with heads := s.hp.heads.map HeadRecord.atFrameStart } }

/-- R86: the exchange states of the new frame start empty; those of the ending frame are kept while its slot 23 is
open. -/
def shiftExchanges (s : State) : State :=
  let empty := Vector.replicate 24 Exchange.empty
  { s with
    cle := { s.cle with exch := empty, prevExch := if s.hp.openSlot.isSome then s.cle.exch else empty }
    hp := { s.hp with openSlot := s.hp.openSlot.map fun o => { o with stale := true } } }

/-- R42: a slot of the multiframe just ended, still in progress when the boundary is taken, counts towards it: its
garbled results are counted before the counts roll, and the slot keeps what was counted for its close (log entry 20). -/
def settleGarbled (s : State) : State :=
  match s.hp.openSlot with
  | some o =>
    if o.time.mf + 1#16 = s.now.mf then
      let s := forHeads (countGarbled o.record) s
      { s with hp := { s.hp with
        openSlot := some { o with rolled := some ⟨garbledHeads o.record, s.rep.exponent⟩ } } }
    else s
  | none => s

/-- What a multiframe boundary brings before the slot map is built: validation of a committed plan (R11), the roll of
the contention counts (R42) and the backoff exponent (R155). -/
def openMultiframe (s : State) : State := updateExponent (rollCounts (settleGarbled (dealWithPlan s)))

/-- R16, R20: the map of the new frame replaces the one before. -/
def replaceMap (s : State) : State := { s with fs := { s.fs with map := buildMap s s.now.frame } }

/-- R16: a frame start, one event. The poll choice is made before the Registry's ageing checks (log entry 11). -/
def startFrame (s : State) : State :=
  let boundary := atBoundary s
  let s := shiftExchanges (takeRestores (advanceFrame s))
  let s := if boundary then openMultiframe s else s
  let s := assembleBeacon (replaceMap s)
  if boundary then ageRegistry s.now s else s

/-! ## Slot start -/

/-- `s` with the entry of head `h` in the slot in progress, and its slot order, set. -/
def setSlotEntry (h : HeadNo) (e : Entry) (o : Option SlotOrder) (s : State) : State :=
  { s with hp := { s.hp with
    openSlot := s.hp.openSlot.map fun open' => { open' with entries := put open'.entries h e }
    orders := put s.hp.orders h o } }

/-- A head that carries out a cell: the entry is opened where a return is awaited, and the order sent (R38). -/
def sendOrder (t : Time) (h : HeadNo) (c : Cell) (awaited : Bool) (burst : List Byte) (s : State) : State :=
  setSlotEntry h ⟨c, awaited, none, false⟩ (some ⟨t, c.code, burst⟩) s

/-- A head to which no order is sent in the slot (R29, R38). -/
def sendNothing (h : HeadNo) (c : Cell) (s : State) : State :=
  setSlotEntry h ⟨c, false, none, (s.head h).outOfService⟩ none s

/-- R38, R42: the slot order of head `h` for its cell in slot `t.slot`. -/
def startCell (t : Time) (h : HeadNo) (s : State) : State :=
  let c := s.cell h t.slot
  if (s.head h).outOfService then sendNothing h c s
  else
    match c with
    | .beacon => sendOrder t h c false s.fs.beacon.bytes s
    | .crane x role =>
      if (s.link x).mode = .closed then sendNothing h c s
      else
        let composed := composeDown t x role h s
        sendOrder t h c true composed.2 composed.1
    | .listen _ => sendOrder t h c true [] s
    | .poll _ id => sendOrder t h c true (pollBurst t id) s
    | .contention =>
      sendOrder t h c true (invitation t) (s.setHead h { s.head h with offered := (s.head h).offered + 1 })
    | .quiet | .off => sendNothing h c s

/-- The slot in progress before any order is sent. -/
def emptySlot (t : Time) : OpenSlot := ⟨t, Vector.replicate 12 ⟨.off, false, none, false⟩, false, none⟩

/-- R38: a slot start, one event. It is no event of air time while a slot is in progress, after the current slot
has started or before the first frame start, and then changes nothing (log entry 5). DESIGN CHOICE (log entry 40): the
down bursts are composed by ascending head, so where two links fall to their low marks at one slot start (R89), the one
LIST-LOW notice names the link of the lower head; no rule orders the two consumptions. -/
def startSlot (s : State) : State :=
  if !s.fs.airStarted || s.fs.slotStarted || s.hp.openSlot.isSome then s
  else
    let t := s.now
    let s : State := { s with fs := { s.fs with slotStarted := true }, hp := { s.hp with openSlot := some (emptySlot t) } }
    forHeads (startCell t) s

/-! ## Slot close -/

/-- The link whose level a cell measures (R48). -/
def measuredLink : Cell → Option LinkNo
  | .crane x _ => some x
  | .listen x => some x
  | _ => none

/-- R48: the level code of a measurement; none for an OUT OF SERVICE entry. -/
def measuredLevel (e : RecordEntry) : Option Nat := match e.ret with
  | some (_, .outOfService) => none
  | some (_, .deadline) => some 0
  | some (r, .head) => some r.level.toNat
  | none => none

/-- R47, R49: a measurement of link `x` on head `h` in its record; a head outside the window changes nothing. -/
def Handover.measure (w : Handover) (k : Nat) (h : HeadNo) (level : Nat) : Handover :=
  w.setQuality h (some (filterStep k level (w.quality h)))

/-- R48: the measurement of head `h` in a slot record. A head that has left service yields none, also one whose drain
completed in this very slot close (R34, R50). -/
def measureHead (r : SlotRecord) (h : HeadNo) (s : State) : State :=
  let e := r.entries.get h
  match measuredLink e.cell, measuredLevel e with
  | some x, some level =>
    if !inService s h || openedMeanwhile r s x then s
    else updateRecord x (fun w => w.measure s.cov.settings.filter h level) s
  | _, _ => s

/-- R53: an unforced link in LOST or RECOVERING begins afresh. -/
def restartCounting (x : LinkNo) (s : State) : State :=
  updateRecord x (fun w => { w with candidate := none, trigger := 0, state := .settled }) s

/-- R53: link `x` at a slot close whose record carries its CRANE cells on `heads`. -/
def coverLink (x : LinkNo) (heads : List HeadNo) (w : Handover) (s : State) : State :=
  let l := s.link x
  if w.state = .dual ∨ w.forced = true then s
  else if l.health = .lost ∨ l.health = .recovering then restartCounting x s
  else
    match servingHead s x with
    | some c =>
      if heads.contains c && evaluable l && (w.quality c).isSome then evaluate x c w s else s
    | none => s

/-- R53: the evaluation of link `x` at a slot close that carries one of its CRANE cells (R103, log entry 23). -/
def evaluateLink (r : SlotRecord) (x : LinkNo) (s : State) : State :=
  match s.record x with
  | none => s
  | some w =>
    if openedMeanwhile r s x then s
    else
      match craneHeads r x .primary ++ craneHeads r x .target with
      | [] => s
      | heads => coverLink x heads w s

/-- R42: the garbled results of the slot that closes. Where the boundary that ended its multiframe was taken first, they
count towards that multiframe (log entry 20). -/
def countClosed (o : OpenSlot) (s : State) : State :=
  match o.stale, o.rolled with
  | true, some b => recount b o.record s
  | _, _ => forHeads (countGarbled o.record) s

/-- R41: the consumers of a slot record: the Head Port Array's garbled counts (R42), the Reefer Registry (R127), the
Crane Link Engine (R94 to R97), the Coverage Unit's measurements (R48) and evaluations (R53). The Registry homes
units before a drain that this slot close completes unhomes them, so the law of R28 holds (log entry 10). -/
def handOn (o : OpenSlot) (s : State) : State :=
  let r := o.record
  let s := registryTakes r (countClosed o s)
  let s := forLinks (closeExchange r) s
  let s := forHeads (measureHead r) s
  forLinks (evaluateLink r) s

/-- R27, R33: the close of slot 23 also closes the status window and lowers the drain timers. DESIGN CHOICE (log entry
33): what it raises is stamped `t`, the slot that closes, also when the next frame start was taken first. -/
def closeFrame (t : Time) (s : State) : State := forHeads (tickDrain t) (forHeads (closeStatusWindow t) s)

/-- R1: the slot number advances at the close of slots 0 to 22. The kept exchange states of a frame already left are
given up once its slot 23 has closed (R86). -/
def advanceSlot (o : OpenSlot) (s : State) : State :=
  if o.stale then { s with cle := { s.cle with prevExch := Vector.replicate 24 Exchange.empty } }
  else if h : o.time.slot.1 < 23 then
    { s with fs := { s.fs with now := { s.fs.now with slot := ⟨o.time.slot.1 + 1, by omega⟩ }, slotStarted := false } }
  else s

/-- R41: the close of the slot in progress, one event; slot 0 yields no slot record. Without a slot in progress it is
no event of air time and changes nothing (log entry 5). -/
def closeSlot (s : State) : State :=
  match s.hp.openSlot with
  | none => s
  | some o =>
    let s : State := { s with hp := { s.hp with openSlot := none } }
    let s := if o.time.slot.1 = 0 then s else handOn o s
    let s := if o.time.slot.1 = 23 then closeFrame o.time s else s
    advanceSlot o s

end Sys2Proof.Machine
end

