-- ==== Sys2Proof/Machine/PlanCommands.lean ====
section
/-! DEFINITION. What the commands of the Frame Scheduler and COVER SET do: PLAN STAGE, PLAN COMMIT, PLAN QUERY, MAP
QUERY (R8 to R10, R22), COVER SET (R45). Each answers the state after it and its reply. -/

namespace Sys2Proof.Machine

/-- R8 stage 1: an edit that names a head or slot out of range; codes 4 and 5 name none, other codes are passed
over (R174). -/
def editOutOfRange (e : PlanEdit) : Bool :=
  match e.code.toNat with
  | 1 | 3 => (headNo e.object).isNone
  | 2 => decide (e.object.toNat = 0) || decide (23 < e.object.toNat)
  | _ => false

/-- R8 stage 3: one edit, its value clamped. -/
def applyEdit (p : Plan) (e : PlanEdit) : Plan :=
  match e.code.toNat with
  | 1 => match headNo e.object with
    | some h => { p with headGroup := put p.headGroup h (readGroup e.value) }
    | none => p
  | 2 => match objectNo 24 e.object.toNat with
    | some sl => { p with slotGroup := put p.slotGroup sl (readGroup e.value) }
    | none => p
  | 3 => match headNo e.object with
    | some h => { p with allowed := put p.allowed h (e.value &&& 0xFFFFFE#24) }
    | none => p
  | 4 => { p with maxPolls := readMaxPolls e.value }
  | 5 => { p with order := readOrder e.value }
  | _ => p

/-- PLAN STAGE (R8). -/
def doPlanStage (restart : Bool) (edits : List PlanEdit) (s : State) : State × Reply :=
  if edits.any editOutOfRange then (s, .range)
  else
    let base := if restart then s.fs.active else s.fs.staged
    let staged := edits.foldl applyEdit base
    let ready := if restart then false else s.fs.ready
    ({ s with fs := { s.fs with staged := staged, ready := ready } }, .ok (.planStage staged ready))

/-- PLAN COMMIT (R9). -/
def doPlanCommit (s : State) : State × Reply :=
  ({ s with fs := { s.fs with ready := true } }, .ok (.planCommit (s.now.mf + 1#16)))

/-- PLAN QUERY (R10). -/
def doPlanQuery (s : State) : State × Reply :=
  (s, .ok (.planQuery s.fs.active s.fs.staged s.fs.ready s.now.mf s.now.frame s.fs.last))

/-- MAP QUERY (R22). -/
def doMapQuery (s : State) : State × Reply := (s, .ok (.mapQuery s.now.mf s.now.frame s.fs.map))

/-- The coverage settings after COVER SET (R45). -/
def coverAfter (c : CoverSettings) (k hy t w stop : Option Byte) : CoverSettings where
  filter := (k.map fun v => clamp 1 6 v.toNat).getD c.filter
  hysteresis := (hy.map fun v => clamp 0 31 v.toNat).getD c.hysteresis
  trigger := (t.map fun v => clamp 1 64 v.toNat).getD c.trigger
  weight := (w.map fun v => clamp 0 15 v.toNat).getD c.weight
  stopOnLost := (stop.map fun v => v != 0#8).getD c.stopOnLost

/-- COVER SET (R45); a change of stop-on-lost recomputes every open link (R107). -/
def doCoverSet (k hy t w stop : Option Byte) (s : State) : State × Reply :=
  let c := coverAfter s.cov.settings k hy t w stop
  let s' : State := { s with cov := { s.cov with settings := c } }
  let s' := if c.stopOnLost = s.cov.settings.stopOnLost then s' else forLinks (recomputeStop s.now) s'
  (s', .ok (.coverSet c))

end Sys2Proof.Machine
end

