-- ==== Sys2Proof/Machine/HeadCommands.lean ====
section
/-! DEFINITION. What HEAD RESTORE, HEAD RETIRE and HEAD QUERY do (R30, R32, R37). -/

namespace Sys2Proof.Machine

/-- R30: the drain of head `h` is cancelled. -/
def cancelDrain (h : HeadNo) (s : State) : State :=
  drainEnded h (s.setHead h { s.head h with state := .on, drainTimer := 0, drainOutcome := .cancelled })

/-- R30: HEAD RESTORE of head `h` in its state; none where it is refused. -/
def restoreHead (h : HeadNo) (s : State) : Option State :=
  match (s.head h).state with
  | .off => some (s.setHead h { s.head h with restorePending := true })
  | .draining => some (cancelDrain h s)
  | .on => some s
  | .absent | .fault => none

/-- HEAD RESTORE (R30). -/
def doHeadRestore (head : Byte) (s : State) : State × Reply :=
  match headNo head with
  | none => (s, .range)
  | some h =>
    match restoreHead h s with
    | none => (s, .state .noneGiven)
    | some s' => (s', .ok (.headRestore (s'.head h).state (s'.head h).restorePending))

/-- R32: HEAD RETIRE of head `h` in its state; none where it is refused. -/
def retireHead (h : HeadNo) (s : State) : Option State :=
  match (s.head h).state with
  | .on => some (startDrain s.now h s)
  | .off => some (s.setHead h { s.head h with restorePending := false })
  | .draining | .absent | .fault => none

/-- HEAD RETIRE (R32). -/
def doHeadRetire (head : Byte) (s : State) : State × Reply :=
  match headNo head with
  | none => (s, .range)
  | some h =>
    match retireHead h s with
    | none => (s, .state .noneGiven)
    | some s' => (s', .ok (.headRetire (s'.head h).state (s'.head h).drainTimer s.now))

/-- HEAD QUERY (R37): the fields of R25, so without the mark of R29. -/
def doHeadQuery (head : Byte) (s : State) : State × Reply :=
  match headNo head with
  | none => (s, .range)
  | some h => (s, .ok (.headQuery { s.head h with outOfService := false } (naming s h).length))

end Sys2Proof.Machine
end

