-- ==== Sys2Proof/Machine/CraneCommands.lean ====
section
/-! DEFINITION. What the crane commands and QUAY HOLD do (R69 to R75, R82 to R84, R91, R92, R98, R105, R113). -/

namespace Sys2Proof.Machine

/-! ## Opening and closing (R69 to R72) -/

/-- R69: another link that is not CLOSED holds the terminal id. -/
def terminalInUse (s : State) (x : LinkNo) (terminal : Word32) : Bool :=
  (List.finRange 24).any fun y => y != x && (s.link y).mode != .closed && (s.link y).terminal == terminal

/-- R70: the record of a link as CRANE OPEN leaves it; the posted-error count and the pending alarm count run on. -/
def openedRecord (l : Link) (now : Time) (terminal : Word32) (p : Place) (interlock : Word16) (lowMark : Nat) : Link :=
  { Link.reset with
    terminal := terminal
    mode := .standby
    openedAt := some now
    period := p.period
    phase := p.phase
    staged := interlock
    snapshot := interlock
    lowMark := lowMark
    postedErrors := l.postedErrors
    pendingAlarms := l.pendingAlarms }

/-- R70: an accepted CRANE OPEN, one event. A health other than GOOD kept from the last opening changes, which raises
CRANE (R101, log entry 21). -/
def openLink (x : LinkNo) (terminal : Word32) (p : Place) (interlock : Word16) (lowMark : Nat) (s : State) : State :=
  let before := s.link x
  let s := s.setResv x ⟨some p, none⟩
  let s := s.setLink x (openedRecord before s.now terminal p interlock lowMark)
  let s := s.setRecord x (some (Handover.atOpen p.head))
  let s := s.setExch x { Exchange.empty with opened := true }
  let s := s.setPrevExch x Exchange.empty
  if before.health = .good then s else raiseCrane s.now x s

/-- The number of frames from one frame to the first later frame in which a reservation is due. -/
def framesToDue (p : Place) (f : Fin 16) : Nat :=
  ((List.range 16).find? fun k => due p (f + 1 + Fin.ofNat 16 k)).getD 0 + 1

/-- R70: the multiframe and frame number of the first due frame after the next frame start. -/
def firstDue (p : Place) (t : Time) : Word16 × Fin 16 :=
  let n := framesToDue p t.frame
  (if t.frame.1 + n < 16 then t.mf else t.mf + 1#16, t.frame + Fin.ofNat 16 n)

/-- CRANE OPEN (R69, R70), examined in the order of R69. -/
def doCraneOpen (link : Byte) (terminal : Word32) (head period slot : Byte) (interlock : Word16) (lowMark : Byte)
    (s : State) : State × Reply :=
  match linkNo link, headNo head with
  | some x, some h =>
    if (s.link x).mode ≠ .closed then (s, .state .linkOpen)
    else if terminalInUse s x terminal then (s, .state .terminalInUse)
    else if (s.head h).state ≠ .on then (s, .state .headState)
    else
      match admissionSearch s x h (readPeriod period) (readPreferred slot) with
      | none => (s, .noSlot)
      | some p =>
        let low := clamp 0 63 lowMark.toNat
        let first := firstDue p s.now
        (openLink x terminal p interlock low s, .ok (.craneOpen p low first.1 first.2 s.now))
  | _, _ => (s, .range)

/-- R72 step 1: the test result a close stores. -/
def closeResult (l : Link) : Option TestResult := match l.mode, l.test with
  | .test, some p => some (abortedResult p)
  | _, _ => none

/-- R72 steps 1, 4 and 5 in the record. -/
def closedRecord (l : Link) : Link :=
  { l with mode := .closed, list := [], held := none, latest := none, farEnd := false, test := none,
           testResult := if (closeResult l).isSome then closeResult l else l.testResult }

/-- R72: the close of link `x`, one event, in its order. -/
def closeLink (t : Time) (x : LinkNo) (s : State) : State :=
  let s := releaseAll t x (s.setRecord x none)
  let l := s.link x
  let s : State := { s with cle := { s.cle with poolFree := s.cle.poolFree + l.list.length } }
  let s := (s.setLink x (closedRecord l)).setExch x Exchange.empty
  recomputeStop t x (s.setPrevExch x Exchange.empty)

/-- CRANE CLOSE (R72). -/
def doCraneClose (link : Byte) (s : State) : State × Reply :=
  match linkNo link with
  | none => (s, .range)
  | some x =>
    if (s.link x).mode = .closed then (s, .ok (.craneClose 0 none s.now))
    else (closeLink s.now x s, .ok (.craneClose (s.link x).list.length (closeResult (s.link x)) s.now))

/-! ## Mode and queries (R74, R75) -/

/-- R74: health GOOD or WARNED. -/
def trusted (h : Health) : Bool := h == .good || h == .warned

/-- R74: the mode a link takes on a request for SERVICE (or for STANDBY); none where it is refused. -/
def modeAfter (l : Link) (service : Bool) : Option Mode :=
  match l.mode, service with
  | .closed, _ | .test, _ => none
  | _, false => some .standby
  | .service, true => some .service
  | .standby, true => if trusted l.health then some .service else none

/-- CRANE MODE (R74): mode byte 2 is SERVICE, any other STANDBY (section 10.6). -/
def doCraneMode (link mode : Byte) (s : State) : State × Reply :=
  match linkNo link with
  | none => (s, .range)
  | some x =>
    match modeAfter (s.link x) (mode == 2#8) with
    | none => (s, .state .noneGiven)
    | some m => (updateLink x (fun l => { l with mode := m }) s, .ok (.craneMode m (s.link x).health))

/-- R58: one window head in a query. -/
def windowHead (s : State) (x : LinkNo) (w : Handover) (h : HeadNo) : WindowHead where
  head := h
  quality := w.quality h
  others := otherLinks s x h
  score := (w.quality h).map (scoreOf s x h)

/-- R58, R75: the handover part of a query. -/
def handoverReport (s : State) (x : LinkNo) (w : Handover) : HandoverReport where
  centre := w.centre.map (windowHead s x w)
  left := (w.centre.bind headBelow).map (windowHead s x w)
  right := (w.centre.bind headAbove).map (windowHead s x w)
  candidate := w.candidate
  trigger := w.trigger
  threshold := thresholdFor s (s.link x).health
  state := w.state
  target := targetHead s x
  dual := w.dual
  forced := w.forced
  completed := w.completed
  abandoned := w.abandoned
  blocked := w.blocked

/-- The link record as CRANE QUERY carries it: the fields of R60 with the command list given apart (R75), and the
progress of a test (R98), whose pattern register is no part of it and reads as 0. -/
def queriedLink (l : Link) : Link :=
  { l with list := [], test := l.test.map fun p => { p with register := 0#15 } }

/-- CRANE QUERY (R75, R58). -/
def doCraneQuery (link : Byte) (s : State) : State × Reply :=
  match linkNo link with
  | none => (s, .range)
  | some x =>
    let l := s.link x
    (s, .ok (.craneQuery (queriedLink l) l.list.length (l.list.map fun e => (e.hostTag, e.clamped))
      (s.resv x).primary (s.resv x).target (unplaced s x) (s.cle.contributions.getLsbD x.1) (contributionCount s)
      s.cle.qstop ((s.record x).map (handoverReport s x))))

/-! ## Command lists (R82 to R84) -/

/-- R82: `n` entries fit the list of link `x` and the pool. -/
def entriesFit (s : State) (x : LinkNo) (n : Nat) : Bool :=
  decide ((s.link x).list.length + n ≤ Config.listLimit) && decide (n ≤ s.cle.poolFree)

/-- `n` entries leave the pool (R81). -/
def drawPool (n : Nat) (s : State) : State := { s with cle := { s.cle with poolFree := s.cle.poolFree - n } }

/-- R82: a refused append is counted at its link, and LINK raised. -/
def refuseAppend (x : LinkNo) (s : State) : State :=
  raisePlain s.now .link (updateLink x (fun l => { l with postedErrors := bump l.postedErrors }) s)

/-- CRANE APPEND (R82), posted. -/
def doCraneAppend (link : Byte) (entries : List EntryVals) (s : State) : State :=
  match linkNo link with
  | none => raisePlain s.now .link s
  | some x =>
    if (s.link x).mode != .closed && entriesFit s x entries.length then
      drawPool entries.length (updateLink x (fun l => { l with list := l.list ++ entries.map readEntry }) s)
    else refuseAppend x s

/-- CRANE SPLICE (R83). -/
def doCraneSplice (link : Byte) (entries : List EntryVals) (s : State) : State × Reply :=
  match linkNo link with
  | none => (s, .range)
  | some x =>
    if (s.link x).mode = .closed then (s, .state .noneGiven)
    else if entriesFit s x entries.length then
      let s' := drawPool entries.length (updateLink x (fun l => { l with list := entries.map readEntry ++ l.list }) s)
      (s', .ok (.craneSplice (s'.link x).list.length s'.cle.poolFree))
    else (s, .full)

/-- CRANE FLUSH (R84). -/
def doCraneFlush (link : Byte) (s : State) : State × Reply :=
  match linkNo link with
  | none => (s, .range)
  | some x =>
    let l := s.link x
    if l.mode = .closed then (s, .state .noneGiven)
    else
      let s' := s.setLink x { l with list := [] }
      let free := s.cle.poolFree + l.list.length
      ({ s' with cle := { s'.cle with poolFree := free } }, .ok (.craneFlush l.list.length free))

/-! ## Interlock, test and quay hold (R92, R98, R91) -/

/-- CRANE INTERLOCK (R92). -/
def doCraneInterlock (link : Byte) (word : Word16) (s : State) : State × Reply :=
  match linkNo link with
  | none => (s, .range)
  | some x =>
    if (s.link x).mode = .closed then (s, .state .noneGiven)
    else (updateLink x (fun l => { l with staged := word }) s, .ok (.craneInterlock word (s.link x).snapshot))

/-- CRANE TEST (R98): the pattern register is seeded with all ones. -/
def doCraneTest (link : Byte) (exchanges : Word16) (s : State) : State × Reply :=
  match linkNo link with
  | none => (s, .range)
  | some x =>
    let n := clamp 1 4095 exchanges.toNat
    if (s.link x).mode = .standby ∧ trusted (s.link x).health = true ∧ holdInForce s = false then
      (updateLink x (fun l => { l with mode := .test, test := some ⟨n, 0, 0, 0x7FFF#15⟩ }) s, .ok (.craneTest n))
    else (s, .state .noneGiven)

/-- R91, R100: quay hold as `f` leaves it; when it comes into force every test in progress is aborted. DESIGN CHOICE
(log entry 35): the rules give no order of the aborts; they are made in ascending link number, so the one CRANE EVENT
notice of the event (R168) names the lowest of the links. -/
def changeHold (t : Time) (f : State → State) (s : State) : State :=
  let s' := f s
  if !holdInForce s && holdInForce s' then forLinks (abortTest t) s' else s'

/-- QUAY HOLD (R91): 0 is off, any other code on. -/
def doQuayHold (code : Byte) (s : State) : State × Reply :=
  let s' := changeHold s.now (fun s => { s with cle := { s.cle with hostHold := code != 0#8 } }) s
  (s', .ok (.quayHold s'.cle.hostHold s'.holdin (holdInForce s')))

/-! ## Recovery and forced handover (R105, R113) -/

/-- R105: the health becomes RECOVERING, the recovery count 0. -/
def startRecovery (x : LinkNo) (s : State) : State :=
  setHealth s.now x .recovering (updateLink x (fun l => { l with recovery := 0 }) s)

/-- R105: the admitted reservation places an unplaced link. -/
def placeLink (x : LinkNo) (p : Place) (s : State) : State :=
  let s := s.setResv x { s.resv x with primary := some p }
  let s := updateLink x (fun l => { l with phase := p.phase }) s
  updateRecord x (fun w => { w.emptyWindow with centre := some p.head }) s

/-- R105: an accepted CRANE RECOVER of link `x`, from the state that holds its placing. -/
def recovered (x : LinkNo) (s : State) : State × Reply :=
  let s := startRecovery x s
  (s, .ok (.craneRecover (s.link x).health (s.resv x).primary s.now))

/-- CRANE RECOVER (R105); head byte 255 names no head (section 10.6). -/
def doCraneRecover (link head : Byte) (s : State) : State × Reply :=
  match linkNo link with
  | none => (s, .range)
  | some x =>
    if head ≠ 255#8 ∧ (headNo head).isNone then (s, .range)
    else if (s.link x).mode = .closed then (s, .state .linkClosed)
    else if (s.link x).health ≠ .lost then (s, .state .health)
    else if unplaced s x then
      match headNo head with
      | none => (s, .state .headRequired)
      | some h =>
        if (s.head h).state ≠ .on then (s, .state .headState)
        else
          match admissionSearch s x h (s.link x).period 1 with
          | none => (s, .noSlot)
          | some p => recovered x (placeLink x p s)
    else recovered x s

/-- CRANE MOVE (R113). -/
def doCraneMove (link head : Byte) (s : State) : State × Reply :=
  match linkNo link, headNo head with
  | some x, some h =>
    if (s.link x).mode = .closed then (s, .state .linkClosed)
    else if unplaced s x then (s, .state .unplaced)
    else if inDual s x then (s, .state .handover)
    else if servingHead s x = some h then (s, .state .sameHead)
    else if (s.head h).state ≠ .on then (s, .state .headState)
    else
      match targetSearch s x h with
      | none => (countBlocked x s, .noSlot)
      | some p => (enterDual x p true s, .ok (.craneMove p s.now))
  | _, _ => (s, .range)

end Sys2Proof.Machine
end

