-- ==== Sys2Proof/Machine/ReeferCommands.lean ====
section
/-! DEFINITION. What the commands of the Reefer Registry and the Report Unit do (R124, R125, R135 to R138, R152, R153,
R156). -/

namespace Sys2Proof.Machine

/-- R124: the filter a setting gives; an own mask carried for filters 0 to 5 is ignored, an action code other than
ACCEPT's is REJECT. -/
def filterAfter (f : AcceptFilter) (i : Fin 8) (p : Fin 4) (v : FilterVals) : AcceptFilter where
  enabled := v.enabled
  pattern := v.pattern
  action := if v.action = 0#8 then .accept else .reject
  profile := p
  ownMask := if i.1 < 6 then f.ownMask else v.ownMask

/-- R124: the filters after FILTER SET; none where an object number is out of range. -/
def filtersAfter (s : State) : Option FilterVals → Option (Vector AcceptFilter 8)
  | none => some s.reg.filters
  | some v =>
    match objectNo 8 v.filter.toNat, objectNo 4 v.profile.toNat with
    | some i, some p => some (put s.reg.filters i (filterAfter (s.reg.filters.get i) i p v))
    | _, _ => none

/-- FILTER SET (R124). -/
def doFilterSet (mask : Option Word32) (setting : Option FilterVals) (s : State) : State × Reply :=
  match filtersAfter s setting with
  | none => (s, .range)
  | some filters =>
    let m := mask.getD s.reg.mask
    ({ s with reg := { s.reg with mask := m, filters := filters } }, .ok (.filterSet filters m))

/-- R125: a profile after PROFILE SET. -/
def profileAfter (p : Profile) (report forward : Option Word16) (deadband excursion attempts : Option Byte)
    (gone : Option Word16) : Profile where
  report := (report.map fun v => clamp 1 4095 v.toNat).getD p.report
  forward := (forward.map fun v => clamp 1 30000 v.toNat).getD p.forward
  deadband := (deadband.map fun v => clamp 0 100 v.toNat).getD p.deadband
  excursion := (excursion.map fun v => clamp 1 200 v.toNat).getD p.excursion
  attempts := (attempts.map fun v => clamp 1 7 v.toNat).getD p.attempts
  gone := (gone.map fun v => clamp 1 30000 v.toNat).getD p.gone

/-- PROFILE SET (R125). -/
def doProfileSet (profile : Byte) (report forward : Option Word16) (deadband excursion attempts : Option Byte)
    (gone : Option Word16) (s : State) : State × Reply :=
  match objectNo 4 profile.toNat with
  | none => (s, .range)
  | some i =>
    let p := profileAfter (s.reg.profiles.get i) report forward deadband excursion attempts gone
    ({ s with reg := { s.reg with profiles := put s.reg.profiles i p } }, .ok (.profileSet p))

/-- R135: the place of a POLLING entry in the poll queue, counting from 1 at the head. -/
def queuePlace (s : State) (u : UnitNo) : Option Nat :=
  if (s.unit u).state = .polling then some (s.reg.pollQueue.idxOf u + 1) else none

/-- UNIT QUERY (R135). -/
def doUnitQuery (entry : EntryName) (s : State) : State × Reply :=
  match namedUnit s entry with
  | .error r => (s, r)
  | .ok u =>
    let e := s.unit u
    if e.state = .free then (s, .ok .unitFree)
    else (s, .ok (.unitQuery u e (ageOf s.now.mf e.lastHeard) (goneAge s.now.mf e) (queuePlace s u)))

/-- R136: entry `u` becomes FREE. -/
def freeUnit (u : UnitNo) (s : State) : State :=
  (s.setUnit u UnitEntry.free).setPollQueue (leaveQueue u s.reg.pollQueue)

/-- UNIT RELEASE (R136). -/
def doUnitRelease (entry : EntryName) (s : State) : State × Reply :=
  match namedUnit s entry with
  | .error r => (s, r)
  | .ok u =>
    let e := s.unit u
    (if e.state = .free then s else freeUnit u s, .ok (.unitRelease e.unitId e.state))

/-- R137: the latched alarms after an acknowledgement of `kinds`. -/
def latchedAfter (e : UnitEntry) (kinds : Byte) : BitVec 4 := e.latched &&& ~~~(kinds.setWidth 4 &&& ~~~e.live)

/-- ALARM ACK (R137). -/
def doAlarmAck (entry : EntryName) (kinds : Byte) (s : State) : State × Reply :=
  match namedUnit s entry with
  | .error r => (s, r)
  | .ok u =>
    let e := s.unit u
    if e.state = .free then (s, .state .notListed)
    else
      let l := latchedAfter e kinds
      (s.setUnit u { e with latched := l }, .ok (.alarmAck l e.live))

/-- The number of unit entries of which `p` holds. -/
def countUnits (s : State) (p : UnitEntry → Bool) : Nat :=
  ((List.finRange 1024).filter fun u => p (s.unit u)).length

/-- REGISTRY QUERY (R138). -/
def doRegistryQuery (s : State) : State × Reply :=
  (s, .ok (.registryQuery
    (countUnits s (·.state == .free)) (countUnits s (·.state == .listed)) (countUnits s (·.state == .polling))
    (countUnits s (·.state == .silent)) (countUnits s (·.state == .gone)) s.reg.pollQueue.length
    (countUnits s fun e => e.state != .free && e.serving.isNone)
    s.reg.foreign s.reg.stray s.reg.refusedJoins s.reg.outerFails))

/-- REPORT SET (R152). -/
def doReportSet (threshold : Word16) (s : State) : State × Reply :=
  let n := clamp 1 256 threshold.toNat
  ({ s with rep := { s.rep with threshold := n } }, .ok (.reportSet n s.rep.reports.length))

/-- REPORT QUERY (R156). -/
def doReportQuery (s : State) : State × Reply :=
  (s, .ok (.reportQuery s.rep.acks.length s.rep.reports.length s.rep.alarms.length s.rep.threshold s.rep.exponent
    s.rep.lastOffered s.rep.lastGarbled s.rep.ackLoss s.rep.overflow s.rep.alarmOverflow
    (countUnits s fun e => e.state != .free && e.gapPending)))

/-- FETCH REPORTS (R153). -/
def doFetchReports (count : Byte) (s : State) : State × Reply :=
  let n := clamp 1 16 count.toNat
  let rest := s.rep.reports.drop n
  ({ s with rep := { s.rep with reports := rest } }, .ok (.fetchReports (s.rep.reports.take n) rest.length))

/-- FETCH ALARMS (R153). -/
def doFetchAlarms (count : Byte) (s : State) : State × Reply :=
  let n := clamp 1 16 count.toNat
  let rest := s.rep.alarms.drop n
  ({ s with rep := { s.rep with alarms := rest } }, .ok (.fetchAlarms (s.rep.alarms.take n) rest.length))

end Sys2Proof.Machine
end

