-- ==== Sys2Proof/Machine/ControlPort.lean ====
section
/-! DEFINITION. The Control Port: its own commands (R167, R168, R170, R171), the taking of frames with dispatch and
replies (R162 to R164), the inbound buffer (R161), the receiver (R159, R160), the transmitter (R165) and the reset
events (R2, R169). -/

namespace Sys2Proof.Machine

/-! ## The Control Port's own commands -/

/-- What POLL EVENTS reports of `s` (R167): the PLAN detail result when PLAN was set. -/
def pollReply (s : State) : ReplyBody :=
  .pollEvents s.cp.flags s.cp.craneSet s.cp.listLowSet s.cp.headSet
    (if s.cp.flags.getLsbD Flag.plan.bit then s.cp.planDetail else .none)
    s.cp.frameErrors s.cp.overruns s.cp.malformed s.cp.noticeDrops

/-- POLL EVENTS (R167). -/
def doPollEvents (s : State) : State × Reply := (clearFlags s, .ok (pollReply s))

/-- NOTIFY SET (R168): flag codes outside the ten are ignored. -/
def doNotifySet (flags : Word16) (s : State) : State × Reply :=
  let enables := flags.setWidth 10
  ({ s with cp := { s.cp with enables := enables } }, .ok (.notifySet enables))

/-- IDENTIFY (R170). -/
def doIdentify (s : State) : State × Reply := (s, .ok .identify)

/-! ## Quiet reset (R171) -/

/-- R43 in one head record: a DRAINING head becomes ON, its drain cancelled. -/
def HeadRecord.quietReset (r : HeadRecord) : HeadRecord :=
  if r.state = .draining then { r with state := .on, drainTimer := 0, drainOutcome := .cancelled } else r

/-- R77: link `x` is closed when it is open. -/
def closeIfOpen (t : Time) (x : LinkNo) (s : State) : State :=
  if (s.link x).mode = .closed then s else closeLink t x s

/-- R14: the staged plan becomes a copy of the active plan, plan-ready clear; the last result is kept. -/
def quietPlans (s : State) : State := { s with fs := { s.fs with staged := s.fs.active, ready := false } }

/-- R43: the Head Port Array's quiet reset. DESIGN CHOICE (log entry 38): the rules say nothing of a head link message in
reception; the bytes received so far are kept. -/
def quietHeads (s : State) : State :=
  { s with hp := { s.hp with heads := s.hp.heads.map HeadRecord.quietReset } }

/-- R77: the Crane Link Engine's quiet reset: every open link is closed, as its own close; then the host part of quay
hold is off and every pending alarm count is 0. -/
def quietLinks (s : State) : State :=
  let s := forLinks (closeIfOpen s.now) s
  { s with cle := { s.cle with hostHold := false
                               links := s.cle.links.map fun l => { l with pendingAlarms := 0 } } }

/-- R157: the Report Unit's quiet reset empties its three queues. -/
def quietReports (s : State) : State := { s with rep := { s.rep with acks := [], reports := [], alarms := [] } }

/-- R171 steps 1 and 2: the outbound queue holds the reply to QUIET RESET alone. -/
def quietQueue (m : Message) (s : State) : State := { s with cp := { s.cp with replies := [m], notices := [] } }

/-- R171: what a quiet reset does beyond the outbound queue: flags cleared, RESTARTED raised, then each block's own
quiet reset, whose raises (QUAY-STOP) come after the clear. -/
def quietBlocks (s : State) : State :=
  quietReports (quietLinks (quietHeads (quietPlans (raisePlain s.now .restarted (clearFlags s)))))

/-! ## Dispatch (R163, R164) -/

/-- Each command with a reply is carried out by the block that owns it (section 9.7). CRANE APPEND has no reply and
QUIET RESET deals with the queue itself: `perform` treats both. -/
def carryOut (c : HostCmd) (s : State) : State × Reply :=
  match c with
  | .pollEvents => doPollEvents s
  | .notifySet flags => doNotifySet flags s
  | .identify => doIdentify s
  | .quietReset => (quietBlocks s, .ok .empty)
  | .planStage restart edits => doPlanStage restart edits s
  | .planCommit => doPlanCommit s
  | .planQuery => doPlanQuery s
  | .mapQuery => doMapQuery s
  | .headRestore h => doHeadRestore h s
  | .headRetire h => doHeadRetire h s
  | .headQuery h => doHeadQuery h s
  | .coverSet k hy t w stop => doCoverSet k hy t w stop s
  | .craneOpen l term h p sl il low => doCraneOpen l term h p sl il low s
  | .craneClose l => doCraneClose l s
  | .craneMode l m => doCraneMode l m s
  | .craneQuery l => doCraneQuery l s
  | .craneAppend l es => (doCraneAppend l es s, .ok .empty)
  | .craneSplice l es => doCraneSplice l es s
  | .craneFlush l => doCraneFlush l s
  | .craneInterlock l w => doCraneInterlock l w s
  | .craneTest l n => doCraneTest l n s
  | .craneRecover l h => doCraneRecover l h s
  | .craneMove l h => doCraneMove l h s
  | .quayHold c => doQuayHold c s
  | .filterSet mask v => doFilterSet mask v s
  | .profileSet p r f d e a g => doProfileSet p r f d e a g s
  | .unitQuery n => doUnitQuery n s
  | .unitRelease n => doUnitRelease n s
  | .alarmAck n k => doAlarmAck n k s
  | .registryQuery => doRegistryQuery s
  | .reportSet n => doReportSet n s
  | .reportQuery => doReportQuery s
  | .fetchReports n => doFetchReports n s
  | .fetchAlarms n => doFetchAlarms n s

/-- R164: the reply to command `c` with tag `tag` taken in `s`. -/
def replyTo (c : HostCmd) (tag : Byte) (s : State) : Message := .reply c.kind tag (carryOut c s).2

/-- R165: the reply of a command joins the queue before the notices that its event makes, so the command is carried
out in the state that holds its reply. A posted command has none (R164); QUIET RESET empties the queue first
(R171). -/
def perform (tag : Byte) (c : HostCmd) (s : State) : State :=
  match c with
  | .craneAppend l es => doCraneAppend l es s
  | .quietReset => quietBlocks (quietQueue (replyTo c tag s) s)
  | c => (carryOut c (queueReply (replyTo c tag s) s)).1

/-! ## Taking frames (R161 to R163) -/

/-- R163: a frame with an unknown kind or a wrong body length. -/
def takeUnknown (f : Frame) (s : State) : State :=
  if f.posted then raisePlain s.now .link { s with cp := { s.cp with malformed := bump s.cp.malformed } }
  else queueReply (.reply f.kind f.tag .unknown) s

/-- R162, R163: a frame is taken. -/
def takeFrame (f : Frame) (s : State) : State :=
  match decodeCommand f.kind f.body with
  | some c => perform f.tag c s
  | none => takeUnknown f s

/-- R162: the oldest waiting frame is taken at once. -/
def mayTake (f : Frame) (s : State) : Bool := f.posted || hasRoom s

/-- R162: frames are taken, oldest first, while the oldest may be; at most `n` of them. -/
def takeWaiting : Nat → State → State
  | 0, s => s
  | n + 1, s =>
    match s.cp.inbound with
    | [] => s
    | f :: rest =>
      if mayTake f s then takeWaiting n (takeFrame f { s with cp := { s.cp with inbound := rest } }) else s

/-- R162: every frame that may be taken now is taken (log entry 16). -/
def takeAll (s : State) : State := takeWaiting s.cp.inbound.length s

/-- R161: a good frame enters the inbound buffer, or is lost as an overrun. -/
def accept (f : Frame) (s : State) : State :=
  if s.cp.inbound.length < Config.inCapacity then
    takeAll { s with cp := { s.cp with inbound := s.cp.inbound ++ [f] } }
  else raisePlain s.now .link { s with cp := { s.cp with overruns := bump s.cp.overruns } }

/-- A host command given with its fields stands for its frame (log entry 16): with no frame waiting and the command
takeable it is carried out at once, otherwise its frame goes to the inbound buffer. -/
def hostCommand (tag : Byte) (c : HostCmd) (s : State) : State :=
  if s.cp.inbound = [] ∧ c.wf = true ∧ mayTake (c.frame tag) s = true then perform tag c s
  else accept (c.frame tag) s

/-! ## The receiver (R159, R160) -/

/-- `s` with the bytes of the frame in reception replaced. -/
def setRx (bytes : List Byte) (s : State) : State := { s with cp := { s.cp with rx := bytes } }

/-- R160: a frame in reception fails. -/
def frameError (s : State) : State :=
  raisePlain s.now .link { s with cp := { s.cp with frameErrors := bump s.cp.frameErrors } }

/-- R159: a frame completes reception with check `check`. -/
def completeFrame (f : Frame) (check : Word16) (s : State) : State :=
  if check = f.check then accept f s else frameError s

/-- R160: hunting resumes at the first of two length bytes. -/
def huntAgain (a b : Byte) : List Byte := if a = Config.sync then [a, b] else if b = Config.sync then [b] else []

/-- The length two length bytes give (R172). -/
def frameLength (a b : Byte) : Nat := (rd16 a b).toNat

/-- R159: a length lies in 2..1020. -/
def lengthOk (n : Nat) : Bool := decide (2 ≤ n) && decide (n ≤ Config.largestFrame)

/-- R159: the bytes after kind and tag of a complete frame: its body and its check. -/
def completeRx (kind tag : Byte) (after : List Byte) (s : State) : State :=
  match after.drop (after.length - 2) with
  | [x, y] => completeFrame ⟨kind, tag, after.take (after.length - 2)⟩ (rd16 x y) s
  | _ => s

/-- R159: what the receiver does once the bytes `bytes` of a frame are in. -/
def advanceRx (bytes : List Byte) (s : State) : State :=
  match bytes with
  | [_, a, b] => if lengthOk (frameLength a b) then setRx bytes s else frameError (setRx (huntAgain a b) s)
  | _ :: a :: b :: kind :: tag :: after =>
    if after.length = frameLength a b then completeRx kind tag after (setRx [] s) else setRx bytes s
  | _ => setRx bytes s

/-- R159, R160: a byte arrives, with or without its stop bit. -/
def receiveByte (b : Byte) (stopBit : Bool) (s : State) : State :=
  match s.cp.rx, stopBit with
  | [], true => if b = Config.sync then setRx [b] s else s
  | [], false => s
  | _ :: _, false => frameError (setRx [] s)
  | rx, true => advanceRx (rx ++ [b]) s

/-- R160: no byte for 400 µs while in a frame; a gap while hunting counts nothing. -/
def frameGapPassed (s : State) : State := if s.cp.rx = [] then s else frameError (setRx [] s)

/-! ## The transmitter (R165) -/

/-- R96: a CRANE ALARM notice that leaves the queue lowers its link's pending count. -/
def lowerPending (m : Message) (s : State) : State :=
  match m with
  | .craneAlarm x _ _ _ _ _ => updateLink x (fun l => { l with pendingAlarms := l.pendingAlarms - 1 }) s
  | .reply _ _ _ | .ready | .event _ _ _ _ => s

/-- R165: the head of the queue leaves it and its transmission begins. -/
def beginNext (s : State) : State :=
  match s.cp.replies, s.cp.notices with
  | m :: rest, _ => lowerPending m { s with cp := { s.cp with sending := some m, replies := rest } }
  | [], m :: rest => lowerPending m { s with cp := { s.cp with sending := some m, notices := rest } }
  | [], [] => { s with cp := { s.cp with sending := none } }

/-- R165, R162: a transmission ends (or the idle transmitter begins, log entry 13); the place that frees lets a
waiting frame be taken. -/
def endTransmission (s : State) : State := takeAll (beginNext s)

/-! ## The reset events (R2, R169) -/

/-- The Control Port while RESETN is low: it transmits nothing and ignores all bytes (R169). -/
def ControlPort.held : ControlPort := { ControlPort.reset with notices := [], flags := 0#10 }

/-- RESETN falls (R2): every block at its starting state. HOLDIN, and the model's own fields, are outside reset. -/
def resetFalls (s : State) : State :=
  { State.reset with resetn := false, cp := ControlPort.held, holdin := s.holdin, freeUsed := s.freeUsed,
                     pending := s.pending }

/-- RESETN rises (R169). -/
def resetRises (s : State) : State :=
  if s.resetn then s
  else { State.reset with holdin := s.holdin, freeUsed := s.freeUsed, pending := s.pending }

/-- HOLDIN takes a level (R91). -/
def setHoldin (level : Bool) (s : State) : State := { s with holdin := level }

end Sys2Proof.Machine
end

