-- ==== Sys2Proof/Machine/Events.lean ====
section
/-! DEFINITION. The meanings of the rows that are not host commands: resets, pins, air time, head links, the control
port's line, and the rows that name a part of a larger event for one object (log entry 8). -/

namespace Sys2Proof.Machine

/-- While RESETN is low the DQ720 stands still and every event but the resets and HOLDIN passes it by (R2, R169, log
entry 22). -/
def whileRunning (f : State → State) (s : State) : Host.Outcome State Fault Refusal :=
  .next (if s.resetn then f s else s)

/-! ## Resets and pins -/

/-- HARD_RESET: RESETN falls (R2). -/
def execHardReset (s : State) : Host.Outcome State Fault Refusal := .next (resetFalls s)

/-- RESETN_RISE: RESETN rises (R169). -/
def execResetnRise (s : State) : Host.Outcome State Fault Refusal := .next (resetRises s)

/-- HOLDIN_CHANGE: HOLDIN takes a level (R91). The pin keeps its level while RESETN is low, when no test runs. -/
def execHoldinChange (level : Bool) (s : State) : Host.Outcome State Fault Refusal :=
  .next (if s.resetn then changeHold s.now (setHoldin level) s else setHoldin level s)

/-! ## Air time -/

/-- FRAME_START (R16). -/
def execFrameStart (s : State) : Host.Outcome State Fault Refusal := whileRunning startFrame s

/-- SLOT_START (R38). -/
def execSlotStart (s : State) : Host.Outcome State Fault Refusal := whileRunning startSlot s

/-- SLOT_CLOSE (R41). -/
def execSlotClose (s : State) : Host.Outcome State Fault Refusal := whileRunning closeSlot s

/-! ## Parts of a multiframe boundary, for one unit entry (R132) -/

/-- R132: entry `u`, LISTED and due, becomes POLLING. -/
def agePolling (u : UnitNo) (s : State) : State := if pollingDue s.now s u then startPolling u s else s

/-- R132: entry `u`, LISTED or POLLING and due, becomes SILENT. -/
def ageSilent (u : UnitNo) (s : State) : State := if silentDue s.now s u then goSilent s.now u s else s

/-- R132: entry `u`, SILENT and due, becomes GONE. -/
def ageGone (u : UnitNo) (s : State) : State := if goneDue s.now s u then goGone s.now u s else s

/-- UNIT_BECOMES_POLLING (R132). -/
def execUnitBecomesPolling (u : UnitNo) (s : State) : Host.Outcome State Fault Refusal := whileRunning (agePolling u) s

/-- UNIT_BECOMES_SILENT_BY_AGE (R132). -/
def execUnitBecomesSilentByAge (u : UnitNo) (s : State) : Host.Outcome State Fault Refusal := whileRunning (ageSilent u) s

/-- UNIT_BECOMES_GONE (R132). -/
def execUnitBecomesGone (u : UnitNo) (s : State) : Host.Outcome State Fault Refusal := whileRunning (ageGone u) s

/-! ## Head links -/

/-- HEAD_RETURN (R39). -/
def execHeadReturn (h : HeadNo) (mf : Word16) (frame slot result level : Byte) (bytes : List Byte) (s : State) :
    Host.Outcome State Fault Refusal :=
  whileRunning (takeReturn h mf frame slot result level bytes) s

/-- HEAD_STATUS_RECORD (R26). -/
def execHeadStatusRecord (h : HeadNo) (serial : Word32) (fault : Bool) (s : State) :
    Host.Outcome State Fault Refusal :=
  whileRunning (fun s => takeStatusRecord s.now h serial fault s) s

/-- R26: the first status record of its frame brings head `h`'s link-up count to 2. -/
def linkUpDue (s : State) (h : HeadNo) : Bool :=
  (s.head h).state == .absent && (s.head h).linkUp == 1 && !(s.head h).statusSeen

/-- R26: a status record that brings head `h` up. -/
def bringUp (h : HeadNo) (serial : Word32) (fault : Bool) (s : State) : State :=
  if linkUpDue s h then takeStatusRecord s.now h serial fault s else s

/-- HEAD_LINK_UP (R26). -/
def execHeadLinkUp (h : HeadNo) (serial : Word32) (fault : Bool) (s : State) : Host.Outcome State Fault Refusal :=
  whileRunning (bringUp h serial fault) s

/-- HEAD_LINK_GAP: the message in reception on head link `h` is discarded (R177). -/
def execHeadLinkGap (h : HeadNo) (s : State) : Host.Outcome State Fault Refusal := whileRunning (setHeadRx h []) s

/-- HEAD_LINK_BYTE_RECEIVED (R177). -/
def execHeadLinkByteReceived (h : HeadNo) (b : Byte) (s : State) : Host.Outcome State Fault Refusal :=
  whileRunning (headByte h b) s

/-- R27: the third missed frame in a row of a head that is not ABSENT. -/
def missDue (s : State) (h : HeadNo) : Bool :=
  !(s.head h).statusSeen && decide (2 ≤ (s.head h).missed) && (s.head h).state != .absent

/-- R27: head `h` becomes ABSENT with its third miss. -/
def missThird (h : HeadNo) (s : State) : State := if missDue s h then missStatus s.now h s else s

/-- HEAD_MISSED_ABSENT (R27). -/
def execHeadMissedAbsent (h : HeadNo) (s : State) : Host.Outcome State Fault Refusal := whileRunning (missThird h) s

/-- R35: the drain timer of head `h` is due to reach 0. -/
def expiryDue (s : State) (h : HeadNo) : Bool := (s.head h).state == .draining && decide ((s.head h).drainTimer ≤ 1)

/-- R35: the drain timer of head `h` reaches 0. -/
def drainRunsOut (h : HeadNo) (s : State) : State := if expiryDue s h then expireDrain s.now h s else s

/-- DRAIN_EXPIRY (R35). -/
def execDrainExpiry (h : HeadNo) (s : State) : Host.Outcome State Fault Refusal := whileRunning (drainRunsOut h) s

/-! ## Parts of a slot close, for one link or one unit entry -/

/-- R104: the next success brings the recovery count of link `x` to 16. -/
def recoveryDue (s : State) (x : LinkNo) : Bool :=
  (s.link x).mode != .closed && (s.link x).health == .recovering && decide (15 ≤ (s.link x).recovery)

/-- R104: link `x` completes its recovery. -/
def finishRecovery (x : LinkNo) (s : State) : State := if recoveryDue s x then stepRecovery s.now x true s else s

/-- RECOVERY_COMPLETE (R104). -/
def execRecoveryComplete (x : LinkNo) (s : State) : Host.Outcome State Fault Refusal :=
  whileRunning (finishRecovery x) s

/-- R112: the dual count of link `x` is due to reach 8. -/
def abandonDue (s : State) (x : LinkNo) : Bool := match s.record x with
  | some w => w.state == .dual && decide (7 ≤ w.dual)
  | none => false

/-- R112: the dual count of link `x` reaches 8. -/
def runOutDual (x : LinkNo) (s : State) : State := if abandonDue s x then abandonHandover s.now x s else s

/-- HANDOVER_ABANDON (R112). -/
def execHandoverAbandon (x : LinkNo) (s : State) : Host.Outcome State Fault Refusal := whileRunning (runOutDual x) s

/-- R99: the next exchange completes the test of link `x`. -/
def testDue (s : State) (x : LinkNo) : Bool := match (s.link x).mode, (s.link x).test with
  | .test, some p => decide (p.target ≤ p.done + 1)
  | _, _ => false

/-- R99: the last exchange of the test of link `x` settles with `d` bit errors. -/
def finishTest (x : LinkNo) (d : Fin 65) (s : State) : State :=
  if testDue s x then countTestExchange s.now x d.1 s else s

/-- TEST_COMPLETE (R99). -/
def execTestComplete (x : LinkNo) (d : Fin 65) (s : State) : Host.Outcome State Fault Refusal :=
  whileRunning (finishTest x d) s

/-- R53: the record under which link `x`, served on head `c`, would be evaluated. -/
def evaluationOf (s : State) (x : LinkNo) : Option (HeadNo × Handover) :=
  match s.record x, servingHead s x with
  | some w, some c =>
    if w.state = .dual ∨ w.forced = true then none
    else if evaluable (s.link x) && (w.quality c).isSome then some (c, w) else none
  | _, _ => none

/-- R56, R109: the next evaluation of link `x` brings its trigger count to the threshold. -/
def handoverDue (s : State) (x : LinkNo) : Option (HeadNo × Handover) :=
  match evaluationOf s x with
  | none => none
  | some (c, w) =>
    match qualifier s x c with
    | none => none
    | some q => if thresholdFor s (s.link x).health ≤ nextTrigger w q then some (c, w) else none

/-- R109: the trigger count of link `x` reaches the threshold. -/
def reachThreshold (x : LinkNo) (s : State) : State :=
  match handoverDue s x with
  | none => s
  | some (c, w) => evaluate x c w s

/-- HANDOVER_START (R109). -/
def execHandoverStart (x : LinkNo) (s : State) : Host.Outcome State Fault Refusal := whileRunning (reachThreshold x) s

/-- R134: the next unanswered poll of entry `u` exhausts its attempts. -/
def attemptsDue (s : State) (u : UnitNo) : Bool :=
  (s.unit u).state == .polling && decide ((profileOf s u).attempts ≤ (s.unit u).attempts + 1)

/-- R134: the poll attempts of entry `u` reach its profile's value. -/
def exhaustAttempts (u : UnitNo) (s : State) : State := if attemptsDue s u then countUnanswered s.now u s else s

/-- POLL_ATTEMPTS_EXHAUSTED (R134). -/
def execPollAttemptsExhausted (u : UnitNo) (s : State) : Host.Outcome State Fault Refusal :=
  whileRunning (exhaustAttempts u) s

/-! ## The control port's line -/

/-- R159: a frame completes reception, its bytes given whole; the receiver hunts again. -/
def receiveFrame (f : Frame) (check : Word16) (s : State) : State := completeFrame f check (setRx [] s)

/-- FRAME_RECEIVED (R159 to R161). -/
def execFrameReceived (kind tag : Byte) (body : List Byte) (check : Word16) (s : State) :
    Host.Outcome State Fault Refusal :=
  whileRunning (receiveFrame ⟨kind, tag, body⟩ check) s

/-- FRAME_GAP (R160). -/
def execFrameGap (s : State) : Host.Outcome State Fault Refusal := whileRunning frameGapPassed s

/-- UNKNOWN_COMMAND: a good frame, as FRAME_RECEIVED gives it, that R163 answers with UNKNOWN or drops. -/
def execUnknownCommand (tag kind : Byte) (body : List Byte) (s : State) : Host.Outcome State Fault Refusal :=
  whileRunning (accept ⟨kind, tag, body⟩) s

/-- MESSAGE_TRANSMITTED (R165). -/
def execMessageTransmitted (s : State) : Host.Outcome State Fault Refusal := whileRunning endTransmission s

/-- CONTROL_PORT_BYTE_RECEIVED (R159, R160). -/
def execControlPortByteReceived (b : Byte) (stopBit : Bool) (s : State) : Host.Outcome State Fault Refusal :=
  whileRunning (receiveByte b stopBit) s

end Sys2Proof.Machine
end

