-- ==== Sys2Proof/Machine/HostMeanings.lean ====
section
/-! DEFINITION. The meanings of the host commands, given with their fields (R162, R163, log entry 16). What each does
is the operation `do…` of its owning block, called by `carryOut`. -/

namespace Sys2Proof.Machine

/-- POLL EVENTS (R167). -/
def execPollEvents (tag : Byte) (s : State) : Host.Outcome State Fault Refusal :=
  whileRunning (hostCommand tag .pollEvents) s

/-- NOTIFY SET (R168). -/
def execNotifySet (tag : Byte) (flags : Word16) (s : State) : Host.Outcome State Fault Refusal :=
  whileRunning (hostCommand tag (.notifySet flags)) s

/-- IDENTIFY (R170). -/
def execIdentify (tag : Byte) (s : State) : Host.Outcome State Fault Refusal :=
  whileRunning (hostCommand tag .identify) s

/-- QUIET RESET (R171). -/
def execQuietReset (tag : Byte) (s : State) : Host.Outcome State Fault Refusal :=
  whileRunning (hostCommand tag .quietReset) s

/-- PLAN STAGE (R8). -/
def execPlanStage (tag : Byte) (restart : Bool) (edits : List PlanEdit) (s : State) :
    Host.Outcome State Fault Refusal :=
  whileRunning (hostCommand tag (.planStage restart edits)) s

/-- PLAN COMMIT (R9). -/
def execPlanCommit (tag : Byte) (s : State) : Host.Outcome State Fault Refusal :=
  whileRunning (hostCommand tag .planCommit) s

/-- PLAN QUERY (R10). -/
def execPlanQuery (tag : Byte) (s : State) : Host.Outcome State Fault Refusal :=
  whileRunning (hostCommand tag .planQuery) s

/-- MAP QUERY (R22). -/
def execMapQuery (tag : Byte) (s : State) : Host.Outcome State Fault Refusal :=
  whileRunning (hostCommand tag .mapQuery) s

/-- HEAD RESTORE (R30). -/
def execHeadRestore (tag head : Byte) (s : State) : Host.Outcome State Fault Refusal :=
  whileRunning (hostCommand tag (.headRestore head)) s

/-- HEAD RETIRE (R32). -/
def execHeadRetire (tag head : Byte) (s : State) : Host.Outcome State Fault Refusal :=
  whileRunning (hostCommand tag (.headRetire head)) s

/-- HEAD QUERY (R37). -/
def execHeadQuery (tag head : Byte) (s : State) : Host.Outcome State Fault Refusal :=
  whileRunning (hostCommand tag (.headQuery head)) s

/-- COVER SET (R45). -/
def execCoverSet (tag : Byte) (filter hysteresis trigger weight stop : Option Byte) (s : State) :
    Host.Outcome State Fault Refusal :=
  whileRunning (hostCommand tag (.coverSet filter hysteresis trigger weight stop)) s

/-- CRANE OPEN (R69). -/
def execCraneOpen (tag link : Byte) (terminal : Word32) (head period slot : Byte) (interlock : Word16)
    (lowMark : Byte) (s : State) :
    Host.Outcome State Fault Refusal :=
  whileRunning (hostCommand tag (.craneOpen link terminal head period slot interlock lowMark)) s

/-- CRANE CLOSE (R72). -/
def execCraneClose (tag link : Byte) (s : State) : Host.Outcome State Fault Refusal :=
  whileRunning (hostCommand tag (.craneClose link)) s

/-- CRANE MODE (R74). -/
def execCraneMode (tag link mode : Byte) (s : State) : Host.Outcome State Fault Refusal :=
  whileRunning (hostCommand tag (.craneMode link mode)) s

/-- CRANE QUERY (R75). -/
def execCraneQuery (tag link : Byte) (s : State) : Host.Outcome State Fault Refusal :=
  whileRunning (hostCommand tag (.craneQuery link)) s

/-- CRANE APPEND (R82). -/
def execCraneAppend (tag link : Byte) (entries : List EntryVals) (s : State) : Host.Outcome State Fault Refusal :=
  whileRunning (hostCommand tag (.craneAppend link entries)) s

/-- CRANE SPLICE (R83). -/
def execCraneSplice (tag link : Byte) (entries : List EntryVals) (s : State) : Host.Outcome State Fault Refusal :=
  whileRunning (hostCommand tag (.craneSplice link entries)) s

/-- CRANE FLUSH (R84). -/
def execCraneFlush (tag link : Byte) (s : State) : Host.Outcome State Fault Refusal :=
  whileRunning (hostCommand tag (.craneFlush link)) s

/-- CRANE INTERLOCK (R92). -/
def execCraneInterlock (tag link : Byte) (word : Word16) (s : State) : Host.Outcome State Fault Refusal :=
  whileRunning (hostCommand tag (.craneInterlock link word)) s

/-- CRANE TEST (R98). -/
def execCraneTest (tag link : Byte) (exchanges : Word16) (s : State) : Host.Outcome State Fault Refusal :=
  whileRunning (hostCommand tag (.craneTest link exchanges)) s

/-- CRANE RECOVER (R105). -/
def execCraneRecover (tag link head : Byte) (s : State) : Host.Outcome State Fault Refusal :=
  whileRunning (hostCommand tag (.craneRecover link head)) s

/-- CRANE MOVE (R113). -/
def execCraneMove (tag link head : Byte) (s : State) : Host.Outcome State Fault Refusal :=
  whileRunning (hostCommand tag (.craneMove link head)) s

/-- QUAY HOLD (R91). -/
def execQuayHold (tag code : Byte) (s : State) : Host.Outcome State Fault Refusal :=
  whileRunning (hostCommand tag (.quayHold code)) s

/-- FILTER SET (R124). -/
def execFilterSet (tag : Byte) (mask : Option Word32) (setting : Option FilterVals) (s : State) :
    Host.Outcome State Fault Refusal :=
  whileRunning (hostCommand tag (.filterSet mask setting)) s

/-- PROFILE SET (R125). -/
def execProfileSet (tag profile : Byte) (report forward : Option Word16) (deadband excursion attempts : Option Byte)
    (gone : Option Word16) (s : State) :
    Host.Outcome State Fault Refusal :=
  whileRunning (hostCommand tag (.profileSet profile report forward deadband excursion attempts gone)) s

/-- UNIT QUERY (R135). -/
def execUnitQuery (tag : Byte) (entry : EntryName) (s : State) : Host.Outcome State Fault Refusal :=
  whileRunning (hostCommand tag (.unitQuery entry)) s

/-- UNIT RELEASE (R136). -/
def execUnitRelease (tag : Byte) (entry : EntryName) (s : State) : Host.Outcome State Fault Refusal :=
  whileRunning (hostCommand tag (.unitRelease entry)) s

/-- ALARM ACK (R137). -/
def execAlarmAck (tag : Byte) (entry : EntryName) (kinds : Byte) (s : State) : Host.Outcome State Fault Refusal :=
  whileRunning (hostCommand tag (.alarmAck entry kinds)) s

/-- REGISTRY QUERY (R138). -/
def execRegistryQuery (tag : Byte) (s : State) : Host.Outcome State Fault Refusal :=
  whileRunning (hostCommand tag .registryQuery) s

/-- REPORT SET (R152). -/
def execReportSet (tag : Byte) (threshold : Word16) (s : State) : Host.Outcome State Fault Refusal :=
  whileRunning (hostCommand tag (.reportSet threshold)) s

/-- REPORT QUERY (R156). -/
def execReportQuery (tag : Byte) (s : State) : Host.Outcome State Fault Refusal :=
  whileRunning (hostCommand tag .reportQuery) s

/-- FETCH REPORTS (R153). -/
def execFetchReports (tag count : Byte) (s : State) : Host.Outcome State Fault Refusal :=
  whileRunning (hostCommand tag (.fetchReports count)) s

/-- FETCH ALARMS (R153). -/
def execFetchAlarms (tag count : Byte) (s : State) : Host.Outcome State Fault Refusal :=
  whileRunning (hostCommand tag (.fetchAlarms count)) s

end Sys2Proof.Machine
end

