-- ==== Sys2Proof/Machine/Dispatch.lean ====
section
/-! DEFINITION. The effect of each command on everything but the queue: one arm for each row of
spec/opcode_table.json. -/

namespace Sys2Proof.Machine

def exec (i : Instr) (s : State) : Host.Outcome State Fault Refusal :=
  match i with
  | .hardReset => Sys2Proof.Machine.execHardReset s
  | .resetnRise => Sys2Proof.Machine.execResetnRise s
  | .frameStart => Sys2Proof.Machine.execFrameStart s
  | .unitBecomesPolling unit => Sys2Proof.Machine.execUnitBecomesPolling unit s
  | .unitBecomesSilentByAge unit => Sys2Proof.Machine.execUnitBecomesSilentByAge unit s
  | .unitBecomesGone unit => Sys2Proof.Machine.execUnitBecomesGone unit s
  | .slotStart => Sys2Proof.Machine.execSlotStart s
  | .headReturn head mf frame slot result level bytes => Sys2Proof.Machine.execHeadReturn head mf frame slot result level bytes s
  | .headStatusRecord head serial fault => Sys2Proof.Machine.execHeadStatusRecord head serial fault s
  | .headLinkUp head serial fault => Sys2Proof.Machine.execHeadLinkUp head serial fault s
  | .headLinkGap head => Sys2Proof.Machine.execHeadLinkGap head s
  | .slotClose => Sys2Proof.Machine.execSlotClose s
  | .headMissedAbsent head => Sys2Proof.Machine.execHeadMissedAbsent head s
  | .drainExpiry head => Sys2Proof.Machine.execDrainExpiry head s
  | .recoveryComplete link => Sys2Proof.Machine.execRecoveryComplete link s
  | .handoverAbandon link => Sys2Proof.Machine.execHandoverAbandon link s
  | .testComplete link differing => Sys2Proof.Machine.execTestComplete link differing s
  | .handoverStart link => Sys2Proof.Machine.execHandoverStart link s
  | .pollAttemptsExhausted unit => Sys2Proof.Machine.execPollAttemptsExhausted unit s
  | .holdinChange level => Sys2Proof.Machine.execHoldinChange level s
  | .frameReceived kind tag body check => Sys2Proof.Machine.execFrameReceived kind tag body check s
  | .frameGap => Sys2Proof.Machine.execFrameGap s
  | .unknownCommand tag kind body => Sys2Proof.Machine.execUnknownCommand tag kind body s
  | .messageTransmitted => Sys2Proof.Machine.execMessageTransmitted s
  | .pollEvents tag => Sys2Proof.Machine.execPollEvents tag s
  | .notifySet tag flags => Sys2Proof.Machine.execNotifySet tag flags s
  | .identify tag => Sys2Proof.Machine.execIdentify tag s
  | .quietReset tag => Sys2Proof.Machine.execQuietReset tag s
  | .planStage tag restart edits => Sys2Proof.Machine.execPlanStage tag restart edits s
  | .planCommit tag => Sys2Proof.Machine.execPlanCommit tag s
  | .planQuery tag => Sys2Proof.Machine.execPlanQuery tag s
  | .mapQuery tag => Sys2Proof.Machine.execMapQuery tag s
  | .headRestore tag head => Sys2Proof.Machine.execHeadRestore tag head s
  | .headRetire tag head => Sys2Proof.Machine.execHeadRetire tag head s
  | .headQuery tag head => Sys2Proof.Machine.execHeadQuery tag head s
  | .coverSet tag filter hysteresis trigger weight stop => Sys2Proof.Machine.execCoverSet tag filter hysteresis trigger weight stop s
  | .craneOpen tag link terminal head period slot interlock lowMark => Sys2Proof.Machine.execCraneOpen tag link terminal head period slot interlock lowMark s
  | .craneClose tag link => Sys2Proof.Machine.execCraneClose tag link s
  | .craneMode tag link mode => Sys2Proof.Machine.execCraneMode tag link mode s
  | .craneQuery tag link => Sys2Proof.Machine.execCraneQuery tag link s
  | .craneAppend tag link entries => Sys2Proof.Machine.execCraneAppend tag link entries s
  | .craneSplice tag link entries => Sys2Proof.Machine.execCraneSplice tag link entries s
  | .craneFlush tag link => Sys2Proof.Machine.execCraneFlush tag link s
  | .craneInterlock tag link word => Sys2Proof.Machine.execCraneInterlock tag link word s
  | .craneTest tag link exchanges => Sys2Proof.Machine.execCraneTest tag link exchanges s
  | .craneRecover tag link head => Sys2Proof.Machine.execCraneRecover tag link head s
  | .craneMove tag link head => Sys2Proof.Machine.execCraneMove tag link head s
  | .quayHold tag code => Sys2Proof.Machine.execQuayHold tag code s
  | .filterSet tag mask setting => Sys2Proof.Machine.execFilterSet tag mask setting s
  | .profileSet tag profile report forward deadband excursion attempts gone => Sys2Proof.Machine.execProfileSet tag profile report forward deadband excursion attempts gone s
  | .unitQuery tag entry => Sys2Proof.Machine.execUnitQuery tag entry s
  | .unitRelease tag entry => Sys2Proof.Machine.execUnitRelease tag entry s
  | .alarmAck tag entry kinds => Sys2Proof.Machine.execAlarmAck tag entry kinds s
  | .registryQuery tag => Sys2Proof.Machine.execRegistryQuery tag s
  | .reportSet tag threshold => Sys2Proof.Machine.execReportSet tag threshold s
  | .reportQuery tag => Sys2Proof.Machine.execReportQuery tag s
  | .fetchReports tag count => Sys2Proof.Machine.execFetchReports tag count s
  | .fetchAlarms tag count => Sys2Proof.Machine.execFetchAlarms tag count s
  | .controlPortByteReceived byte stopBit => Sys2Proof.Machine.execControlPortByteReceived byte stopBit s
  | .headLinkByteReceived head byte => Sys2Proof.Machine.execHeadLinkByteReceived head byte s

end Sys2Proof.Machine
end

