-- ==== Sys2Proof/Safety.lean ====
section
/-! DEFINITION. What the manual calls laws of the device, and the conditions and views that claims are stated with. -/

namespace Sys2Proof.Machine

/-! ## Views -/

/-- The row of the table that gives host command `c` under a tag. -/
def hostInstr (tag : Byte) : HostCmd → Instr
  | .pollEvents => .pollEvents tag
  | .notifySet flags => .notifySet tag flags
  | .identify => .identify tag
  | .quietReset => .quietReset tag
  | .planStage restart edits => .planStage tag restart edits
  | .planCommit => .planCommit tag
  | .planQuery => .planQuery tag
  | .mapQuery => .mapQuery tag
  | .headRestore h => .headRestore tag h
  | .headRetire h => .headRetire tag h
  | .headQuery h => .headQuery tag h
  | .coverSet k hy t w st => .coverSet tag k hy t w st
  | .craneOpen l term h p sl il low => .craneOpen tag l term h p sl il low
  | .craneClose l => .craneClose tag l
  | .craneMode l m => .craneMode tag l m
  | .craneQuery l => .craneQuery tag l
  | .craneAppend l es => .craneAppend tag l es
  | .craneSplice l es => .craneSplice tag l es
  | .craneFlush l => .craneFlush tag l
  | .craneInterlock l w => .craneInterlock tag l w
  | .craneTest l n => .craneTest tag l n
  | .craneRecover l h => .craneRecover tag l h
  | .craneMove l h => .craneMove tag l h
  | .quayHold c => .quayHold tag c
  | .filterSet mask v => .filterSet tag mask v
  | .profileSet p r f d e a g => .profileSet tag p r f d e a g
  | .unitQuery n => .unitQuery tag n
  | .unitRelease n => .unitRelease tag n
  | .alarmAck n k => .alarmAck tag n k
  | .registryQuery => .registryQuery tag
  | .reportSet n => .reportSet tag n
  | .reportQuery => .reportQuery tag
  | .fetchReports n => .fetchReports tag n
  | .fetchAlarms n => .fetchAlarms tag n

/-- The Control Port carries out a host command at once: RESETN is high, no frame waits, and the outbound queue has a
place for the reply (R162, R169). -/
structure Ready (s : State) : Prop where
  running : s.resetn = true
  noneWaiting : s.cp.inbound = []
  room : hasRoom s = true

/-- Command `i` of kind `kind` is answered `r` and its next state is `f` of the state that holds the reply (R164,
R165). -/
def Answers (i : Instr) (kind tag : Byte) (r : Reply) (f : State → State) (s : State) : Prop :=
  exec i s = .next (f (queueReply (.reply kind tag r) s))

/-- A flag is set (R166). -/
def flagSet (s : State) (f : Flag) : Bool := s.cp.flags.getLsbD f.bit

/-- Flag `f` has been raised with an object byte on the way from `s` to `t`, the only raise (R166, R168): no other flag
has changed. A flag that was clear and is enabled makes an EVENT notice at the tail of the outbound queue, or a counted
drop where that is full (R165); otherwise there is no notice. -/
def Raised (f : Flag) (object : Byte) (s t : State) : Prop :=
  (∀ g, flagSet t g = (flagSet s g || decide (g = f))) ∧
    (flagSet s f = true ∨ s.cp.enables.getLsbD f.bit = false →
      t.cp.notices = s.cp.notices ∧ t.cp.noticeDrops = s.cp.noticeDrops) ∧
    (flagSet s f = false → s.cp.enables.getLsbD f.bit = true →
      ((outbound s).length < 64 → t.cp.notices = s.cp.notices ++ [.event f object t.cp.flags s.fs.now] ∧
        t.cp.noticeDrops = s.cp.noticeDrops) ∧
      (64 ≤ (outbound s).length → t.cp.notices = s.cp.notices ∧
        t.cp.noticeDrops = min (s.cp.noticeDrops + 1) 65535))

/-- LINK, which has no object (R174), has been raised on the way from `s` to `t`, the only raise. -/
def LinkRaised (s t : State) : Prop := Raised .link 255#8 s t

/-- `t` is `s` but for the Control Port. -/
def SameButPort (s t : State) : Prop := t = { s with cp := t.cp }

/-- A run of bytes arrives on the control port, each with its stop bit, each carried out as a command (R159). -/
def receiveAll (bytes : List Byte) (s : State) : Host.Outcome State Fault Refusal :=
  bytes.foldl (fun o b => match o with
    | .next s => exec (.controlPortByteReceived b true) s
    | .fault e => .fault e
    | .refused e => .refused e) (.next s)

/-- A run of bytes arrives on head link `h`, each carried out as a command (R177). -/
def receiveOnHead (h : HeadNo) (bytes : List Byte) (s : State) : Host.Outcome State Fault Refusal :=
  bytes.foldl (fun o b => match o with
    | .next s => exec (.headLinkByteReceived h b) s
    | .fault e => .fault e
    | .refused e => .refused e) (.next s)

/-- The bytes of a head status record on the head link (R177). -/
def statusBytes (serial : Word32) (fault : Bool) : List Byte :=
  Config.sync :: withCheck (3#8 :: (be32 serial ++ [bit0 fault]))

/-- A CRANE raise of link `x` is seen in `t`: the flag is set and the link stands in its detail set (R166). -/
def CraneSeen (t : State) (x : LinkNo) : Prop := flagSet t .crane = true ∧ t.cp.craneSet.getLsbD x.1 = true

/-- A HEAD raise of head `h` is seen in `t` (R166). -/
def HeadSeen (t : State) (h : HeadNo) : Prop := flagSet t .head = true ∧ t.cp.headSet.getLsbD h.1 = true

/-- Every link but `x` keeps its record, its reservations and its handover record. -/
def OthersKept (x : LinkNo) (s t : State) : Prop :=
  ∀ y, y ≠ x → t.link y = s.link y ∧ t.resv y = s.resv y ∧ t.record y = s.record y

/-- The slot in progress `o`, of slots 1 to 22, closes next in its own frame, and only head `h` holds a cell that calls
for a return (R41). -/
structure OnlyEntry (s : State) (o : OpenSlot) (h : HeadNo) : Prop where
  running : s.resetn = true
  inProgress : s.hp.openSlot = some o
  current : o.stale = false ∧ o.time = s.fs.now
  slot : 0 < o.time.slot.1 ∧ o.time.slot.1 < 23
  others : ∀ g, g ≠ h → (o.entries.get g).cell = .quiet ∨ (o.entries.get g).cell = .off

/-- That head awaits a return, in service (R41). -/
structure OnlyCell (s : State) (o : OpenSlot) (h : HeadNo) : Prop extends OnlyEntry s o h where
  awaited : (o.entries.get h).awaited = true ∧ (o.entries.get h).outOfService = false

/-- The only cell of the slot is a CONTENTION cell, or a POLL cell of the burst's unit, filled with the report burst `b`
at level code `level` (R127). -/
structure OneBurst (s : State) (o : OpenSlot) (h : HeadNo) (b : ReportBurst) (level : Byte) : Prop where
  only : OnlyCell s o h
  cell : (o.entries.get h).cell = .contention ∨ ∃ u, (o.entries.get h).cell = .poll u b.unitId
  burst : ∃ bytes, (o.entries.get h).ret = some ⟨.decoded, level, bytes⟩ ∧ readReport bytes = some b

/-- No non-FREE entry holds unit id `id` (R129, R130). -/
def NotHeld (s : State) (id : Word32) : Prop := ∀ u, (s.unit u).state = .free ∨ (s.unit u).unitId ≠ id

/-- Entry `u` is the FREE entry of lowest index (R129 step 2). -/
def FirstFree (s : State) (u : UnitNo) : Prop := (s.unit u).state = .free ∧ ∀ v < u, (s.unit v).state ≠ .free

/-- No entry is FREE and `u` is the entry that has been GONE longest, of equal ages the lowest index (R129 step 3). -/
def LongestGone (s : State) (u : UnitNo) : Prop :=
  (∀ v, (s.unit v).state ≠ .free) ∧ (s.unit u).state = .gone ∧ ∃ since, (s.unit u).goneSince = some since ∧
    ∀ v other, (s.unit v).state = .gone → (s.unit v).goneSince = some other →
      (s.fs.now.mf - other).toNat < (s.fs.now.mf - since).toNat ∨
        (s.fs.now.mf - other).toNat = (s.fs.now.mf - since).toNat ∧ u ≤ v

/-- An acknowledgement has joined the ack queue: when it held 32, the oldest is gone and the loss counted (R149). -/
def AckJoined (s t : State) (a : Ack) : Prop :=
  t.rep.acks = (if 32 ≤ s.rep.acks.length then s.rep.acks.drop 1 else s.rep.acks) ++ [a] ∧
    t.rep.ackLoss = if 32 ≤ s.rep.acks.length then bump s.rep.ackLoss else s.rep.ackLoss

/-- Entry `e` as a JOIN of its own unit leaves it before its report is processed (R128, R129 step 1). -/
def joinedOwn (e : UnitEntry) (h : HeadNo) (p : Fin 4) (level : Byte) (mf : Word16) (b : ReportBurst) : UnitEntry :=
  { e with state := .listed, serving := some h, profile := p, lastSeq := b.seq, goneSince := none,
           live := e.live &&& 0xB#4, snapshot := none, lastHeard := mf, lastLevel := level }

/-- The entry a JOIN fills afresh, before its report is processed (R128, R129 steps 2 and 3). -/
def joinedFresh (h : HeadNo) (p : Fin 4) (level : Byte) (mf : Word16) (b : ReportBurst) : UnitEntry :=
  { UnitEntry.free with state := .listed, unitId := b.unitId, serving := some h, profile := p, lastSeq := b.seq,
                        lastHeard := mf, lastLevel := level }

/-- Entry `e` as a PERIODIC or POLLED arrival of its unit leaves it before its report is processed, where that is no
duplicate (R128, R130). -/
def reported (e : UnitEntry) (h : HeadNo) (level : Byte) (mf : Word16) (b : ReportBurst) : UnitEntry :=
  { e with
    state := .listed, serving := some h, lastSeq := b.seq, lastHeard := mf, lastLevel := level
    goneSince := if e.state = .listed then e.goneSince else none
    live := if e.state = .silent ∨ e.state = .gone then e.live &&& 0xB#4 else e.live }

/-- What the processing of a report leaves as it is (R141). -/
def SameService (e f : UnitEntry) : Prop :=
  f.state = e.state ∧ f.unitId = e.unitId ∧ f.serving = e.serving ∧ f.profile = e.profile ∧ f.lastSeq = e.lastSeq ∧
    f.lastHeard = e.lastHeard ∧ f.lastLevel = e.lastLevel ∧ f.attempts = e.attempts ∧ f.goneSince = e.goneSince

/-- A burst of slot `o` on head `h`, accepted with profile `p`, is processed as a report in entry `u`, which its
handling has left as `e` (R129, R130, R141): a JOIN into its own entry or into a FREE or GONE one, or a new PERIODIC
or POLLED report. -/
def Processed (s : State) (h : HeadNo) (p : Fin 4) (level : Byte) (b : ReportBurst) (u : UnitNo) (e : UnitEntry) :
    Prop :=
  (b.kind = .join ∧ (s.unit u).state ≠ .free ∧ (s.unit u).unitId = b.unitId ∧
      e = joinedOwn (s.unit u) h p level s.fs.now.mf b) ∨
    (b.kind = .join ∧ NotHeld s b.unitId ∧ (FirstFree s u ∨ LongestGone s u) ∧
      e = joinedFresh h p level s.fs.now.mf b) ∨
    (b.kind ≠ .join ∧ (s.unit u).state ≠ .free ∧ (s.unit u).unitId = b.unitId ∧ b.seq ≠ (s.unit u).lastSeq ∧
      e = reported (s.unit u) h level s.fs.now.mf b)

/-- A report is stored unless it is suspect (R141): its inner check holds and its power code is one of the three. -/
def Sound (b : ReportBurst) (w : Power) : Prop := b.innerOk = true ∧ readPower b.power = some w

/-- The record of burst `b` on head `h` for entry `u`, its gap flag still to be set (R151). -/
def recordOf (s : State) (u : UnitNo) (h : HeadNo) (level : Byte) (b : ReportBurst) (r : RecordReadings)
    (clamped absent suspect : Bool) : ReportRecord :=
  ⟨b.unitId, u, b.kind, b.seq, s.fs.now, h, level, r, clamped, absent, suspect, false⟩

/-- The record `r` of entry `e` at index `u` is handed to the Report Unit (R151, R152): it joins the report queue with
the entry's gap flag, which it clears, and REPORTS is raised when the depth rises to the threshold; a full queue
refuses it, which sets gap-pending and counts the overflow. -/
def RecordHanded (s t : State) (u : UnitNo) (e : UnitEntry) (r : ReportRecord) : Prop :=
  (s.rep.reports.length < 256 → t.rep.reports = s.rep.reports ++ [{ r with gap := e.gapPending }] ∧
    (t.unit u).gapPending = false ∧ t.rep.overflow = s.rep.overflow ∧
    flagSet t .reports = (flagSet s .reports || decide (s.rep.reports.length + 1 = s.rep.threshold))) ∧
  (256 ≤ s.rep.reports.length → t.rep.reports = s.rep.reports ∧ (t.unit u).gapPending = true ∧
    t.rep.overflow = bump s.rep.overflow ∧ flagSet t .reports = flagSet s .reports)

/-- The alarm kinds that went from clear in `e` to set in `f`, in the order in which a report hands on their records
(R146). -/
def newAlarms (e f : UnitEntry) : List AlarmKind :=
  [.power, .unit, .excursion].filter fun k => f.live &&& k.bit != 0#4 && e.live &&& k.bit == 0#4

/-- The alarm records `news` are handed to the Report Unit, where they find a queue of at most 32 (R154): they join
while it holds fewer, the others are counted, and ALARMS is raised when the queue was empty. -/
def AlarmsHanded (s t : State) (news : List AlarmRecord) : Prop :=
  t.rep.alarms = s.rep.alarms ++ news.take (32 - s.rep.alarms.length) ∧
    (s.rep.alarmOverflow ≤ 65535 →
      t.rep.alarmOverflow = min 65535 (s.rep.alarmOverflow + (news.length - (32 - s.rep.alarms.length)))) ∧
    flagSet t .alarms = (flagSet s .alarms || decide (s.rep.alarms = [] ∧ news ≠ []))

/-- Entry `e` of the slot in progress brings a burst that fails the outer test (R127): the return to a POLL or CONTENTION
cell, of a head still in service, is DECODED and no report burst by length, outer check and kind. -/
def failsOuter (e : Entry) : Bool :=
  (match e.cell with
    | .contention | .poll _ _ => true
    | _ => false) && e.awaited && !e.outOfService &&
  match e.ret with
  | some ⟨.decoded, _, bytes⟩ => (readReport bytes).isNone
  | _ => false

/-- Entry `e` of the slot in progress brings a garbled result (R42): a CONTENTION cell, of a head still in service, whose
return is GARBLED or fails the outer test. -/
def bringsGarbled (e : Entry) : Bool :=
  e.cell == .contention && e.awaited && !e.outOfService &&
  match e.ret with
  | some ⟨.garbled, _, _⟩ => true
  | _ => failsOuter e

/-- The slot in progress `o` closes next with a CRANE cell of link `x` on head `h` as its only cell, which closes the
last CRANE cell of the link in the frame; the link was not opened in the frame (R94, R97). -/
structure LastCraneCell (s : State) (o : OpenSlot) (h : HeadNo) (x : LinkNo) (role : Role) : Prop where
  only : OnlyCell s o h
  started : s.fs.slotStarted = true
  cell : (o.entries.get h).cell = .crane x role
  last : ∀ g sl r, s.cell g sl = .crane x r → sl ≤ o.time.slot
  fresh : (s.exch x).opened = false ∧ (s.exch x).settled = false

/-- The link of that cell is in STANDBY or SERVICE, its health read from the score (R101). -/
structure OneCraneCell (s : State) (o : OpenSlot) (h : HeadNo) (x : LinkNo) (role : Role) : Prop
    extends LastCraneCell s o h x role where
  mode : (s.link x).mode = .standby ∨ (s.link x).mode = .service
  health : (s.link x).health = .good ∨ (s.link x).health = .warned ∨ (s.link x).health = .degraded

/-- The outcome counters after an exchange with result `kind` (R97). -/
def counted (c : Outcomes) (kind : CellResult) : Outcomes where
  exchanges := bump c.exchanges
  noReply := if kind = .noReply then bump c.noReply else c.noReply
  badCheck := if kind = .badCheck then bump c.badCheck else c.badCheck
  wrongTerminal := if kind = .wrongTerminal then bump c.wrongTerminal else c.wrongTerminal
  echoMismatch := if kind = .echoMismatch then bump c.echoMismatch else c.echoMismatch

/-- The number of bits in which two test patterns differ (R99). -/
def bitErrors (a b : BitVec 64) : Nat := ((List.finRange 64).filter fun i => a.getLsbD i.1 != b.getLsbD i.1).length

/-- `q` is the next 64 bits of the sequence that stands at pattern register `r`, first bit first, and `r'` is the
register behind them (R98, R99): a register holds the next 15 bits, and every later bit is the exclusive-or of the
bits 15 and 14 places before it. -/
def NextBits (r : BitVec 15) (q : BitVec 64) (r' : BitVec 15) : Prop :=
  ∃ b : Nat → Bool, (∀ i < 15, b i = r.getLsbD (14 - i)) ∧ (∀ i, b (i + 15) = (b i ^^ b (i + 1))) ∧
    (∀ i < 64, q.getLsbD (63 - i) = b i) ∧ ∀ i < 15, r'.getLsbD (14 - i) = b (64 + i)

/-- The slot order of head `h` in `t` carries the down burst to link `x` of `s` with a mode code, a list-dry flag and a
payload (R90, R175), and its check is kept for the cell (R86). The interlock is the snapshot of `t`. -/
def Sends (s t : State) (h : HeadNo) (x : LinkNo) (role : Role) (code : Byte) (dry : Bool) (payload : List Byte) : Prop :=
  ∃ fields, fields = be32 (s.link x).terminal ++ be16 s.fs.now.mf ++
      [BitVec.ofNat 8 s.fs.now.frame.1, BitVec.ofNat 8 s.fs.now.slot.1, code, BitVec.ofNat 8
        ((if (s.link x).farEnd = true then 1 else 0) + (if (s.link x).health = .degraded then 2 else 0) +
          if dry = true then 4 else 0)] ++ be16 (t.link x).snapshot ++ payload ∧
    t.hp.orders.get h = some ⟨s.fs.now, 2#8, fields ++ be16 (crc16 fields)⟩ ∧
    (t.exch x).started = (s.exch x).started ++ [⟨h, s.fs.now.slot, role, crc16 fields⟩]

/-- The payload of a COMMAND burst (R90, R175). -/
def commandBytes (c : CraneEntry) : List Byte :=
  be16 c.hostTag ++ be16 (BitVec.ofInt 16 c.gantry) ++ be16 (BitVec.ofInt 16 c.trolley) ++
    be16 (BitVec.ofInt 16 c.hoist) ++ [BitVec.ofNat 8 (c.spreader.1 + if c.endOfMove = true then 16 else 0)]

/-- Head `h` holds in slot `sl` a cell that the release of link `x`'s reservations turns QUIET (R21): the CRANE cell
of a reservation whose slot has not started, or a LISTEN cell of the link next to it. -/
def Released (s : State) (x : LinkNo) (h : HeadNo) (sl : SlotNo) : Prop :=
  ∃ p r, ((s.resv x).primary = some p ∨ (s.resv x).target = some p) ∧ p.slot = sl ∧
    (s.fs.now.slot < sl ∨ s.fs.now.slot = sl ∧ s.fs.slotStarted = false) ∧ s.cell p.head sl = .crane x r ∧
    (h = p.head ∨ dist h p.head = 1 ∧ s.cell h sl = .listen x)

/-- The return of head `h` carries a valid up burst `up` of link `x` that echoes the link's down burst there (R94). -/
def Heard (s : State) (o : OpenSlot) (h : HeadNo) (x : LinkNo) (up : UpBurst) : Prop :=
  (∃ level bytes, (o.entries.get h).ret = some ⟨.decoded, level, bytes⟩ ∧ readUp bytes = some up) ∧
    up.terminal = (s.link x).terminal ∧
    (∃ c ∈ (s.exch x).started, c.head = h ∧ c.slot = o.time.slot) ∧
    ∀ c ∈ (s.exch x).started, c.head = h → c.slot = o.time.slot → up.status.echo = c.check

/-- The CRANE cell of link `x` on head `h` fails with a result (R94): no burst decoded, a burst that is no valid up
burst, one of another terminal, or one that echoes no down burst of the cell. -/
def Failed (s : State) (o : OpenSlot) (h : HeadNo) (x : LinkNo) : CellResult → Prop
  | .noReply => ∀ level bytes, (o.entries.get h).ret ≠ some ⟨.decoded, level, bytes⟩
  | .badCheck => ∃ level bytes, (o.entries.get h).ret = some ⟨.decoded, level, bytes⟩ ∧ readUp bytes = none
  | .wrongTerminal => ∃ level bytes up, (o.entries.get h).ret = some ⟨.decoded, level, bytes⟩ ∧
      readUp bytes = some up ∧ up.terminal ≠ (s.link x).terminal
  | .echoMismatch => ∃ level bytes up, (o.entries.get h).ret = some ⟨.decoded, level, bytes⟩ ∧
      readUp bytes = some up ∧ up.terminal = (s.link x).terminal ∧
      ∀ c ∈ (s.exch x).started, c.head = h → c.slot = o.time.slot → up.status.echo ≠ c.check
  | .success => False

/-- The exchange of link `x` that the CRANE cell on head `h` settles ends in `kind`, with the latest status and the
pattern returned that it leaves (R94, R95, R97, R99): a success, or a failure of a link none of whose cells has closed
before. -/
def EndsIn (s : State) (o : OpenSlot) (h : HeadNo) (x : LinkNo) (kind : CellResult) (latest : Option CraneStatus)
    (returned : Option (BitVec 64)) : Prop :=
  (∃ up, Heard s o h x up ∧ kind = .success ∧ latest = some up.status ∧ returned = some up.pattern) ∨
    Failed s o h x kind ∧ (s.exch x).best = none ∧ latest = (s.link x).latest ∧ returned = none

/-- Every reservation on head `h` is held by link `x`. -/
def OnlyLinkOn (s : State) (h : HeadNo) (x : LinkNo) : Prop := ∀ r ∈ table s, r.place.head = h → r.link = x

/-- `v` is `w` but for filtered qualities that have become invalid (R50). -/
def Faded (w v : Handover) : Prop :=
  v = { w with leftQ := v.leftQ, centreQ := v.centreQ, rightQ := v.rightQ } ∧ (v.leftQ = w.leftQ ∨ v.leftQ = none) ∧
    (v.centreQ = w.centreQ ∨ v.centreQ = none) ∧ (v.rightQ = w.rightQ ∨ v.rightQ = none)

/-- No link in DUAL onto head `h` from a DRAINING head has a kept result, so the release of its TARGET settles no
exchange (R97) that could unplace it (R119) and complete that drain (R34, R50). -/
def NoneSettles (s : State) (h : HeadNo) : Prop :=
  ∀ z g, targetHead s z = some h → servingHead s z = some g → (s.head g).state = .draining → (s.exch z).best = none

/-- The filtered quality of head `h` in a window is `q` (R46): `h` is its centre, its left or its right head. -/
def HasQuality (w : Handover) (h : HeadNo) (q : Nat) : Prop :=
  ∃ c, w.centre = some c ∧ (h = c ∧ w.centreQ = some q ∨ h.1 + 1 = c.1 ∧ w.leftQ = some q ∨
    c.1 + 1 = h.1 ∧ w.rightQ = some q)

/-- The number of links other than `x` that hold a reservation on head `h` (R52). -/
def rivals (s : State) (x : LinkNo) (h : HeadNo) : Nat :=
  ((List.finRange 24).filter fun y => decide (y ≠ x ∧ (servingHead s y = some h ∨ targetHead s y = some h))).length

/-- The effective score of head `h` for link `x` is `e` (R52): its filtered quality, less 16 times the load weight for
each other link that holds a reservation there. -/
def Score (s : State) (x : LinkNo) (h : HeadNo) (e : Int) : Prop :=
  ∃ w q, s.record x = some w ∧ HasQuality w h q ∧
    e = (q : Int) - 16 * (s.cov.settings.weight : Int) * (rivals s x h : Int)

/-- Head `q` qualifies for link `x` served on `c` (R55): a head next to the window's centre, ON, whose effective score
reaches that of `c` with the hysteresis. -/
def Reaches (s : State) (x : LinkNo) (c q : HeadNo) (f : Int) : Prop :=
  Score s x q f ∧ (s.head q).state = .on ∧ (∃ w n, s.record x = some w ∧ w.centre = some n ∧ dist n q = 1) ∧
    ∃ e, Score s x c e ∧ e + 16 * (s.cov.settings.hysteresis : Int) ≤ f

/-- Head `q` is the qualifier of link `x` served on `c` (R55): of the heads that qualify the one with the larger
effective score, of equal scores the lower one. -/
def Qualifier (s : State) (x : LinkNo) (c q : HeadNo) : Prop :=
  ∃ f, Reaches s x c q f ∧ ∀ k g, Reaches s x c k g → g < f ∨ g = f ∧ q ≤ k

/-- `p` is a place for link `x` on head `h` with the link's period and phase (R67). -/
def FitsLink (s : State) (x : LinkNo) (h : HeadNo) (p : Place) : Prop :=
  p.head = h ∧ p.slot ≠ 0 ∧ p.period = (s.link x).period ∧ p.phase = (s.link x).phase

/-- `p` is what the target search of link `x` on head `h` finds: the admissible place of lowest slot (R67). -/
def TargetFound (s : State) (x : LinkNo) (h : HeadNo) (p : Place) : Prop :=
  FitsLink s x h p ∧ admissible s x p = true ∧ ∀ q, FitsLink s x h q → admissible s x q = true → p.slot ≤ q.slot

/-- The target search of link `x` on head `h` reports NOSLOT: no place there is admissible (R67). -/
def NoTarget (s : State) (x : LinkNo) (h : HeadNo) : Prop := ∀ q, FitsLink s x h q → admissible s x q = false

/-- A window after a measurement of level code `level` on head `h` with filter constant `k` (R47, R49): the filtered
quality of `h` makes one step, where `h` is in the window. -/
def measured (k level : Nat) (h : HeadNo) (w : Handover) : Handover :=
  match w.centre with
  | none => w
  | some c =>
    if h = c then { w with centreQ := some (filterStep k level w.centreQ) }
    else if h.1 + 1 = c.1 then { w with leftQ := some (filterStep k level w.leftQ) }
    else if c.1 + 1 = h.1 then { w with rightQ := some (filterStep k level w.rightQ) }
    else w

/-- The level code of a measurement (R48): that of the return, 0 where the deadline filled the entry. -/
def levelOf (e : Entry) : Nat := match e.ret with
  | some r => r.level.toNat
  | none => 0

/-- The valid ON neighbours of head `h` in the window of link `x`, each with its effective score (R116). -/
def IsChoice (s : State) (x : LinkNo) (h g : HeadNo) (e : Int) : Prop :=
  dist h g = 1 ∧ (s.head g).state = .on ∧ Score s x g e

/-- Head `g` is the first choice of link `x`, served on `h`, when it has to leave (R116): the valid ON neighbour of `h`
with the highest effective score, of equal scores the lower one. -/
def FirstChoice (s : State) (x : LinkNo) (h g : HeadNo) : Prop :=
  ∃ e, IsChoice s x h g e ∧ ∀ k f, IsChoice s x h k f → f < e ∨ f = e ∧ g ≤ k

/-- Place `p` is what link `x`, served on `h`, finds when it has to leave (R116, R119): the target search admits it on
its head, which comes first among the valid ON neighbours of `h` on which a search admits a slot. -/
def Chosen (s : State) (x : LinkNo) (h : HeadNo) (p : Place) : Prop :=
  TargetFound s x p.head p ∧ ∃ e, IsChoice s x h p.head e ∧
    ∀ k f, IsChoice s x h k f → ¬ NoTarget s x k → f < e ∨ f = e ∧ p.head ≤ k

/-- Link `x`, served on `h`, has no valid ON neighbour there whose search admits a slot, with the reservations of `s`
(R116, R119). -/
def NoChoice (s : State) (x : LinkNo) (h : HeadNo) : Prop := ∀ g e, IsChoice s x h g e → NoTarget s x g

/-- `s` without the reservations of link `x`, which an emergency move leaves out of the collision test (R116). -/
def withoutLink (s : State) (x : LinkNo) : State := s.setResv x ⟨none, none⟩

/-- How far behind the preferred slot `p` the admission search comes to slot `sl` (R66). -/
def searchOffset (p sl : SlotNo) : Nat := if p ≤ sl then sl.1 - p.1 else sl.1 + 23 - p.1

/-- `p` is what the admission search of link `x` on head `h` finds: the first admissible place, slots from the preferred
one on and around, each with its phases ascending (R66). -/
def FirstAdmissible (s : State) (x : LinkNo) (h : HeadNo) (period : Period) (preferred : SlotNo) (p : Place) : Prop :=
  p.head = h ∧ p.period = period ∧ p.slot ≠ 0 ∧ p.phase < period.frames ∧ admissible s x p = true ∧
    ∀ q : Place, q.head = h → q.period = period → q.phase < period.frames → admissible s x q = true →
      searchOffset preferred p.slot < searchOffset preferred q.slot ∨ p.slot = q.slot ∧ p.phase ≤ q.phase

/-- An exchange cell (R15). -/
def Cell.isExchange : Cell → Bool
  | .crane _ _ | .poll _ _ | .contention => true
  | .beacon | .listen _ | .quiet | .off => false

/-- The state of a command link's list counts these entries. -/
def listTotal (s : State) : Nat := ((List.finRange 24).map fun x => (s.link x).list.length).sum

/-! ## The laws of the device -/

/-- Outbound queue, inbound buffer and the Report Unit's three queues keep their capacities (R165, R161, R149, R151,
R154). -/
structure PortLaw (s : State) : Prop where
  outbound : (outbound s).length ≤ Config.outCapacity
  inbound : s.cp.inbound.length ≤ Config.inCapacity
  acks : s.rep.acks.length ≤ Config.ackCapacity
  reports : s.rep.reports.length ≤ Config.reportCapacity
  alarms : s.rep.alarms.length ≤ Config.alarmCapacity

/-- The reservation table holds no two reservations that collide (R15, R64). -/
def TableLaw (s : State) : Prop := ∀ r ∈ table s, ∀ q ∈ table s, r ≠ q → collide r.place q.place = false

/-- The reuse rule in a map (R15): in slots 1 to 23 two heads with exchange cells are at least 3 apart. -/
def Reuse (m : SlotMap) : Prop :=
  ∀ (sl : SlotNo) (a b : HeadNo), sl ≠ 0 → a ≠ b → ((m.get a).get sl).isExchange = true →
    ((m.get b).get sl).isExchange = true → 3 ≤ dist a b

/-- The law of R17 in a map: every LISTEN cell lies beside a head with a CRANE cell of its link in the same slot. -/
def Listens (m : SlotMap) : Prop :=
  ∀ (h : HeadNo) (sl : SlotNo) (x : LinkNo), (m.get h).get sl = .listen x →
    ∃ g r, dist g h = 1 ∧ (m.get g).get sl = .crane x r

/-- The reuse rule, with what holds it together: the reservation table and the group spacing of the active plan
(R15); and the law of the LISTEN cells (R17). -/
structure ReuseLaw (s : State) : Prop where
  table : TableLaw s
  spacing : spacingFault s.fs.active = none
  map : Reuse s.fs.map
  listen : Listens s.fs.map

/-- The command pool holds 512 entries, free or in a list; a list holds at most 64, a CLOSED link's none (R81, R60). -/
structure PoolLaw (s : State) : Prop where
  total : s.cle.poolFree + listTotal s = Config.poolEntries
  limit : ∀ x, (s.link x).list.length ≤ Config.listLimit
  closed : ∀ x, (s.link x).mode = .closed → (s.link x).list = []

/-- QSTOP and the contributions are what the links show (R107). -/
structure StopLaw (s : State) : Prop where
  member : ∀ x : LinkNo, s.cle.contributions.getLsbD x.1 = contributes s x
  pin : s.cle.qstop = decide (∃ x, contributes s x = true)

/-- The fault score and the health of one link agree (R101). -/
def ScoreFits (l : Link) : Prop :=
  match l.health with
  | .good | .warned | .degraded => healthOf l.score = l.health
  | .lost | .recovering => l.score = 255

/-- The fault score of every link lies in 0..255 and agrees with its health (R101). -/
def ScoreLaw (s : State) : Prop := ∀ x, (s.link x).score ≤ 255 ∧ ScoreFits (s.link x)

/-- A filtered quality in a record lies in 0..4080 when it is valid. -/
def QualityFits (w : Handover) : Prop :=
  ∀ q, (w.leftQ = some q ∨ w.centreQ = some q ∨ w.rightQ = some q) → q ≤ 4080

/-- Every valid filtered quality lies in 0..4080 (R47). -/
def QualityLaw (s : State) : Prop := ∀ x w, s.record x = some w → QualityFits w

/-- What one link holds agrees with its mode and its handover state (R62): a link that is not CLOSED has a handover
record, one in DUAL holds a PRIMARY and a TARGET on different heads, any other no TARGET; a CLOSED link holds neither
record nor reservation, and the window of a placed link is centred on its serving head. -/
structure HeldFits (s : State) (x : LinkNo) : Prop where
  closed : (s.link x).mode = .closed ↔ s.record x = none
  empty : s.record x = none → s.resv x = ⟨none, none⟩
  dual : ∀ w, s.record x = some w → (w.state = .dual ↔ (s.resv x).target ≠ none)
  both : ∀ q, (s.resv x).target = some q → ∃ p, (s.resv x).primary = some p ∧ p.head ≠ q.head
  centre : ∀ w, s.record x = some w → w.centre = servingHead s x

/-- R62 for every link. -/
def HeldLaw (s : State) : Prop := ∀ x, HeldFits s x

/-- No reservation and no unit entry names a head that is OFF, ABSENT or FAULT (R28), with what it rests on: R62, and
that a head with a cell to carry out, or an open entry, is in service or marked out of service (R29). -/
structure HeadLaw (s : State) : Prop where
  held : HeldLaw s
  reservations : ∀ r ∈ table s, inService s r.place.head = true
  units : ∀ u h, (s.unit u).serving = some h → inService s h = true
  cells : ∀ h sl, s.cell h sl ≠ .off → inService s h = true ∨ (s.head h).outOfService = true
  entries : ∀ o h, s.hp.openSlot = some o → (o.entries.get h).awaited = true → inService s h = true ∨
    (o.entries.get h).outOfService = true

/-- No two non-FREE entries hold one unit id (R126). -/
def UnitIdLaw (s : State) : Prop :=
  ∀ u v, (s.unit u).state ≠ .free → (s.unit v).state ≠ .free → (s.unit u).unitId = (s.unit v).unitId → u = v

/-- The poll queue holds exactly the POLLING units, each once (R133). -/
def PollLaw (s : State) : Prop :=
  s.reg.pollQueue.Nodup ∧ ∀ u, u ∈ s.reg.pollQueue ↔ (s.unit u).state = .polling

end Sys2Proof.Machine
end

