-- ==== Sys2Proof/Certificates/Slice0/Obligations.lean ====
section
/-! DEFINITION. The statements about the DQ720 for the provers. `Ready`, `Answers` and the laws stand in
Sys2Proof/Safety.lean. -/

open Sys2Proof Sys2Proof.Machine

/-! ## The step, the resets and the pins -/

/-- A step carries out the command at the front of the queue on the state with the queue's rest; on an empty queue the
block idles (log entry 15, the model's choice). -/
def Obligations.StepRunsTheFrontCommand : Prop :=
  (∀ c rest s, s.pending = c :: rest → step s = exec c { s with pending := rest }) ∧
    ∀ s, s.pending = [] → step s = .next s

/-- RESETN falls and rises (R2, R169): the fall returns every block to its starting state with nothing to transmit and
the line silent, the rise leaves the reset state; HOLDIN and the waiting commands are not the reset's. A rise of a
RESETN that is high changes nothing, and while RESETN is low no event but the resets and HOLDIN changes anything (log
entry 22). The reset state has the values of R7, R14, R23, R25, R44, R46, R60, R77, R123 (the own mask of filters 0 to
5: log entry 7, the model's choice), R125, R126, R139, R157 and R169. -/
def Obligations.ResetFallsAndRises : Prop :=
  (∀ s, exec .hardReset s = .next { State.reset with
    resetn := false, cp := { State.reset.cp with notices := [], flags := 0#10 }, holdin := s.holdin,
    freeUsed := s.freeUsed, pending := s.pending }) ∧
  (∀ s, s.resetn = false → exec .resetnRise s = .next { State.reset with
    holdin := s.holdin, freeUsed := s.freeUsed, pending := s.pending }) ∧
  (∀ s, s.resetn = true → exec .resetnRise s = .next s) ∧
  (∀ i s, s.resetn = false → i ≠ .hardReset → i ≠ .resetnRise → (∀ level, i ≠ .holdinChange level) →
    exec i s = .next s) ∧
  State.reset.fs.now = ⟨0#16, 0, 0⟩ ∧ State.reset.fs.staged = State.reset.fs.active ∧
  (∀ h, (State.reset.fs.active.headGroup.get h).1 = h.1 % 3 ∧ State.reset.fs.active.allowed.get h = 0xFFFFFE#24) ∧
  (∀ sl : SlotNo, sl ≠ 0 → (State.reset.fs.active.slotGroup.get sl).1 = (sl.1 - 1) % 3) ∧
  State.reset.fs.active.maxPolls = 2 ∧ State.reset.fs.active.order = .oldest ∧
  State.reset.fs.ready = false ∧ State.reset.fs.last = .none ∧ table State.reset = [] ∧
  (∀ h, State.reset.head h =
    { state := .absent, restorePending := false, serial := none, statusSeen := false, missed := 0, linkUp := 0,
      drainTimer := 0, drainOutcome := .none, offered := 0, garbled := 0, offeredLast := 0, garbledLast := 0,
      lateReturns := 0, outOfService := false }) ∧
  (∀ x, State.reset.link x =
    { terminal := 0#32, mode := .closed, openedAt := none, health := .good, score := 0, recovery := 0, period := .one,
      phase := 0, staged := 0#16, snapshot := 0#16, list := [], held := none, lowMark := 0, farEnd := false,
      latest := none, pendingAlarms := 0, alarmDrops := 0, postedErrors := 0, testResult := none, test := none,
      outcomes := ⟨0, 0, 0, 0, 0⟩ }) ∧
  State.reset.cle.poolFree = 512 ∧ State.reset.cle.hostHold = false ∧ State.reset.cle.contributions = 0#24 ∧
  State.reset.cle.qstop = false ∧ State.reset.cov.settings = ⟨3, 6, 8, 2, true⟩ ∧
  (∀ x, State.reset.record x = none) ∧
  (∀ u, State.reset.unit u =
    { state := .free, unitId := 0#32, serving := none, profile := 0, lastSeq := 0#4, lastHeard := 0#16, lastLevel := 0#8,
      attempts := 0, goneSince := none, readings := none, clamped := false, sensorAbsent := false, run := 0,
      live := 0#4, latched := 0#4, snapshot := none, gapPending := false }) ∧
  State.reset.reg.pollQueue = [] ∧ State.reset.reg.mask = 0#32 ∧
  (∀ i : Fin 8, State.reset.reg.filters.get i = ⟨decide (i = 0), 0#32, .accept, 0, 0xFFFFFFFF#32⟩) ∧
  (State.reset.reg.foreign, State.reset.reg.stray, State.reset.reg.refusedJoins, State.reset.reg.outerFails) =
    (0, 0, 0, 0) ∧
  (∀ p, State.reset.reg.profiles.get p = ⟨400, 3906, 5, 30, 3, 23438⟩) ∧
  State.reset.rep = ⟨[], [], [], 0, 0, 0, 64, 0, 0, 0⟩ ∧ State.reset.cp.rx = [] ∧ State.reset.cp.inbound = [] ∧
  outbound State.reset = [.ready] ∧ State.reset.cp.sending = none ∧ State.reset.cp.flags = 1#10 ∧
  State.reset.cp.enables = 0#10 ∧ State.reset.cp.craneSet = 0#24 ∧ State.reset.cp.listLowSet = 0#24 ∧
  State.reset.cp.headSet = 0#12 ∧ State.reset.cp.planDetail = .none ∧ State.reset.cp.frameErrors = 0 ∧
  State.reset.cp.overruns = 0 ∧ State.reset.cp.malformed = 0 ∧ State.reset.cp.noticeDrops = 0

/-- Quay hold (R91): HOLDIN's level is its pin part, QUAY HOLD sets its host part, 0 off and any other code on; a change
that brings quay hold into force aborts every test in progress with its partial result (R100), and changes nothing
else of the links. -/
def Obligations.QuayHoldChanges : Prop :=
  (∀ level s, s.resetn = false → exec (.holdinChange level) s = .next { s with holdin := level }) ∧
  (∀ level s, s.resetn = true → ∃ t, exec (.holdinChange level) s = .next t ∧ t.holdin = level ∧
    ((holdInForce s = true ∨ holdInForce { s with holdin := level } = false) → t = { s with holdin := level }) ∧
    (holdInForce s = false → holdInForce { s with holdin := level } = true →
      (∀ x p, (s.link x).mode = .test → (s.link x).test = some p →
        t.link x = { s.link x with mode := .standby, test := none,
                                   testResult := some ⟨p.done, p.bitErrors, true⟩ } ∧ CraneSeen t x) ∧
      ∀ x, (s.link x).mode ≠ .test → t.link x = s.link x) ∧
    t = { s with holdin := level, cle := { s.cle with links := t.cle.links }, cp := t.cp }) ∧
  ∀ tag code s, Ready s → ∃ t, exec (.quayHold tag code) s = .next t ∧
    t.cle.hostHold = decide (code ≠ 0#8) ∧ t.holdin = s.holdin ∧
    .reply 0x3B#8 tag (.ok (.quayHold (decide (code ≠ 0#8)) s.holdin (holdInForce t))) ∈ t.cp.replies ∧
    (∀ x p, holdInForce s = false → code ≠ 0#8 → (s.link x).mode = .test → (s.link x).test = some p →
      t.link x = { s.link x with mode := .standby, test := none,
                                 testResult := some ⟨p.done, p.bitErrors, true⟩ } ∧ CraneSeen t x) ∧
    (∀ x, (holdInForce s = true ∨ code = 0#8 ∨ (s.link x).mode ≠ .test) → t.link x = s.link x) ∧
    t = { s with cle := { s.cle with links := t.cle.links, hostHold := t.cle.hostHold }, cp := t.cp }

/-! ## Air time -/

/-- A frame start (R1, R5, R6, R20, R31): the counters advance, the restores take effect, every head in service holds
the beacon cell and every other head OFF cells where no reservation names it, and the ten oldest acknowledgements
leave the ack queue for the beacon, which carries the Report Unit's exponent. Away from a multiframe boundary nothing
changes but air time, map and beacon, the restores and out-of-service marks, the exchange states with the mark of a
slot still open, and the ack queue. At a boundary (R42, R155) the contention counts of every head become its last
counts, the garbled result of a slot of the ended multiframe still in progress included (log entry 20), and from their
sums C and G the exponent steps: by one up where 4 G exceeds C, by one down where C exceeds 16 G, within 0..7, not at
all where C is 0. -/
def Obligations.FrameStarts : Prop :=
  ∀ s, s.resetn = true → ∃ t, exec .frameStart s = .next t ∧ t.fs.airStarted = true ∧ t.fs.slotStarted = false ∧
    t.fs.now = (if s.fs.airStarted = true then
      (if s.fs.now.frame = 15 then ⟨s.fs.now.mf + 1#16, 0, 0⟩ else ⟨s.fs.now.mf, s.fs.now.frame + 1, 0⟩)
      else s.fs.now) ∧
    (∀ h, (t.head h).state = (if (s.head h).restorePending = true then .on else (s.head h).state) ∧
      (t.head h).restorePending = false) ∧
    (∀ h, t.cell h 0 = if inService t h = true then .beacon else .off) ∧
    (∀ h sl, inService t h = false → (∀ r ∈ table s, r.place.head ≠ h) → t.cell h sl = .off) ∧
    t.fs.beacon.acks = s.rep.acks.take 10 ∧ t.rep.acks = s.rep.acks.drop 10 ∧
    t.fs.beacon.mf = t.fs.now.mf ∧ t.fs.beacon.frame = t.fs.now.frame ∧ t.fs.beacon.hold = holdInForce s ∧
    (∀ h : HeadNo, t.fs.beacon.joinMask.getLsbD h.1 = decide ((t.head h).state = .on)) ∧
    t.fs.beacon.exponent = t.rep.exponent ∧
    (s.fs.airStarted = true → s.fs.now.frame = 15 →
      (∀ h, (t.head h).offeredLast = (s.head h).offered ∧ (t.head h).offered = 0 ∧ (t.head h).garbled = 0 ∧
        (s.hp.openSlot = none → (t.head h).garbledLast = (s.head h).garbled) ∧
        ∀ o, s.hp.openSlot = some o → o.time.mf = s.fs.now.mf → (t.head h).garbledLast =
          (s.head h).garbled + if garbledResult (o.entries.get h).close = true then 1 else 0) ∧
      ∀ c g, c = ((List.finRange 12).map fun h => (t.head h).offeredLast).sum →
        g = ((List.finRange 12).map fun h => (t.head h).garbledLast).sum →
        t.rep.lastOffered = c ∧ t.rep.lastGarbled = g ∧
        t.rep.exponent.1 = (if c = 0 then s.rep.exponent.1 else if c < 4 * g then min 7 (s.rep.exponent.1 + 1)
          else if 16 * g < c then s.rep.exponent.1 - 1 else s.rep.exponent.1)) ∧
    (s.fs.airStarted = false ∨ s.fs.now.frame ≠ 15 →
      t = { s with fs := t.fs, hp := { s.hp with heads := t.hp.heads, openSlot := t.hp.openSlot },
                   cle := { s.cle with exch := t.cle.exch, prevExch := t.cle.prevExch },
                   rep := { s.rep with acks := t.rep.acks } } ∧
      (∀ h, t.head h = { s.head h with state := (t.head h).state, restorePending := false, outOfService := false }) ∧
      t.fs = { s.fs with now := t.fs.now, airStarted := true, slotStarted := false, map := t.fs.map,
                         beacon := t.fs.beacon })

/-- Validation at a multiframe boundary (R11, R12): with plan-ready set, group spacing and then the reservations are
checked; a valid plan becomes the active plan, either way the staged plan becomes a copy of the active plan,
plan-ready is cleared and PLAN is raised with the result. With plan-ready clear nothing of the plans changes. -/
def Obligations.PlanIsValidatedAtTheBoundary : Prop :=
  ∀ s t, s.resetn = true → s.fs.airStarted = true → s.fs.now.frame = 15 → exec .frameStart s = .next t →
    (s.fs.ready = false → t.fs.active = s.fs.active ∧ t.fs.staged = s.fs.staged ∧ t.fs.ready = false ∧
      t.fs.last = s.fs.last ∧ t.cp.planDetail = s.cp.planDetail) ∧
    (s.fs.ready = true → t.fs.ready = false ∧ t.fs.staged = t.fs.active ∧ flagSet t .plan = true ∧
      t.cp.planDetail = t.fs.last ∧
      ((∃ a b : HeadNo, a < b ∧ s.fs.staged.headGroup.get a = s.fs.staged.headGroup.get b ∧ b.1 < a.1 + 3) →
        t.fs.active = s.fs.active ∧ ∃ a b : HeadNo, t.fs.last = .groupSpacing (s.fs.now.mf + 1#16) a b ∧ a < b ∧
          s.fs.staged.headGroup.get a = s.fs.staged.headGroup.get b ∧ b.1 < a.1 + 3 ∧
          ∀ c d : HeadNo, c < d → s.fs.staged.headGroup.get c = s.fs.staged.headGroup.get d → d.1 < c.1 + 3 →
            a < c ∨ a = c ∧ b ≤ d) ∧
      ((∀ a b : HeadNo, a < b → s.fs.staged.headGroup.get a = s.fs.staged.headGroup.get b → a.1 + 3 ≤ b.1) →
        ((∀ r ∈ table s, (s.fs.staged.allowed.get r.place.head).getLsbD r.place.slot.1 = true) →
          t.fs.active = s.fs.staged ∧ t.fs.last = .applied (s.fs.now.mf + 1#16)) ∧
        (∀ r ∈ table s, (s.fs.staged.allowed.get r.place.head).getLsbD r.place.slot.1 = false →
          t.fs.active = s.fs.active ∧ ∃ q ∈ table s, q.link ≤ r.link ∧
            (s.fs.staged.allowed.get q.place.head).getLsbD q.place.slot.1 = false ∧
            t.fs.last = .reservationConflict (s.fs.now.mf + 1#16) q.link)))

/-- The map a frame start builds (R16 to R20), for a table without collisions: a due reservation is a CRANE cell of its
link and role; on a head in service, a cell next to one is a LISTEN cell of its link, a cell near one or whose slot
group differs from its head's group is QUIET, and so is any other cell of a DRAINING head. The cells left to an ON head
are its reefer-eligible cells: in ascending slot order the first of them, up to the maximum polls, are POLL cells of
the units of the poll queue that the head serves, in turn, in queue order under OLDEST and by table index under
LOWEST-INDEX, and the rest are CONTENTION cells. The plan is the one the frame start leaves active; the poll queue is
that before the ageing checks of a boundary (log entry 11). -/
def Obligations.MapIsBuilt : Prop :=
  ∀ s t, s.resetn = true → TableLaw s → exec .frameStart s = .next t → ∀ (h : HeadNo) (sl : SlotNo), sl ≠ 0 →
    (eligible t t.fs.now.frame h sl = true ↔ (t.head h).state = .on ∧
      t.fs.active.slotGroup.get sl = t.fs.active.headGroup.get h ∧
      ∀ r ∈ table s, r.place.slot = sl → due r.place t.fs.now.frame = true → 3 ≤ dist r.place.head h) ∧
    (∀ r ∈ table s, r.place.head = h → r.place.slot = sl → due r.place t.fs.now.frame = true →
      t.cell h sl = .crane r.link r.role) ∧
    ((∀ r ∈ table s, r.place.slot = sl → due r.place t.fs.now.frame = true → r.place.head ≠ h) →
      inService t h = true →
      (∀ r ∈ table s, r.place.slot = sl → due r.place t.fs.now.frame = true → dist r.place.head h = 1 →
        t.cell h sl = .listen r.link) ∧
      ((∀ r ∈ table s, r.place.slot = sl → due r.place t.fs.now.frame = true → 1 < dist r.place.head h) →
        ((∃ r ∈ table s, r.place.slot = sl ∧ due r.place t.fs.now.frame = true ∧ dist r.place.head h = 2) ∨
          (t.head h).state = .draining ∨ t.fs.active.slotGroup.get sl ≠ t.fs.active.headGroup.get h →
          t.cell h sl = .quiet))) ∧
    ∀ units i, units = (match t.fs.active.order with
        | .oldest => s.reg.pollQueue.filter fun u => (s.unit u).serving == some h
        | .lowestIndex => (List.finRange 1024).filter fun u =>
            decide (u ∈ s.reg.pollQueue) && (s.unit u).serving == some h) →
      i = ((List.finRange 24).filter fun k => decide (k < sl) && eligible t t.fs.now.frame h k).length →
      eligible t t.fs.now.frame h sl = true →
        t.cell h sl = (match units[i]? with
          | some u => if i < t.fs.active.maxPolls.1 then .poll u (s.unit u).unitId else .contention
          | none => .contention)

/-- A slot start (R4, R38, R42): every head is given its cell of the map as it stands; a head out of service and the
cells QUIET and OFF get no order; BEACON, LISTEN, POLL and CONTENTION cells get their orders, a CONTENTION cell is
counted as offered, and an entry is opened where a return is awaited, also for a CRANE cell, ordered with its down burst
(`CraneBurstIsComposed`). A CRANE cell of a CLOSED link, which no run reaches, gets no order and opens no entry (log
entry 27, the model's reading of R60). Otherwise (no air time yet, slot already started, or slot still open) it is no
event of air time and nothing changes (log entry 5). -/
def Obligations.SlotStarts : Prop :=
  (∀ s, s.resetn = true → s.fs.airStarted = true → s.fs.slotStarted = false → s.hp.openSlot = none →
    ∃ t o, exec .slotStart s = .next t ∧ t.hp.openSlot = some o ∧ o.time = s.fs.now ∧ o.stale = false ∧
      t.fs = { s.fs with slotStarted := true } ∧ t.reg = s.reg ∧ t.cov = s.cov ∧ t.rep = s.rep ∧
      ∀ h, (o.entries.get h).cell = s.cell h s.fs.now.slot ∧ (o.entries.get h).ret = none ∧
        (o.entries.get h).outOfService = (s.head h).outOfService ∧
        ((s.head h).outOfService = true → (o.entries.get h).awaited = false ∧ t.hp.orders.get h = none ∧
          t.head h = s.head h) ∧
        ((s.head h).outOfService = false →
          (s.cell h s.fs.now.slot = .quiet ∨ s.cell h s.fs.now.slot = .off →
            (o.entries.get h).awaited = false ∧ t.hp.orders.get h = none ∧ t.head h = s.head h) ∧
          (s.cell h s.fs.now.slot = .beacon →
            (o.entries.get h).awaited = false ∧ t.hp.orders.get h = some ⟨s.fs.now, 1#8, s.fs.beacon.bytes⟩) ∧
          (∀ x, s.cell h s.fs.now.slot = .listen x →
            (o.entries.get h).awaited = true ∧ t.hp.orders.get h = some ⟨s.fs.now, 3#8, []⟩) ∧
          (∀ u id, s.cell h s.fs.now.slot = .poll u id → (o.entries.get h).awaited = true ∧
            t.hp.orders.get h = some ⟨s.fs.now, 4#8, withCheck (be32 id ++ s.fs.now.bytes)⟩) ∧
          (∀ x role, s.cell h s.fs.now.slot = .crane x role → t.head h = s.head h ∧
            ((s.link x).mode = .closed → (o.entries.get h).awaited = false ∧ t.hp.orders.get h = none) ∧
            ((s.link x).mode ≠ .closed → (o.entries.get h).awaited = true ∧
              ∃ burst, t.hp.orders.get h = some ⟨s.fs.now, 2#8, burst⟩)) ∧
          (s.cell h s.fs.now.slot = .contention → (o.entries.get h).awaited = true ∧
            t.hp.orders.get h = some ⟨s.fs.now, 5#8, withCheck s.fs.now.bytes⟩ ∧
            t.head h = { s.head h with offered := (s.head h).offered + 1 }))) ∧
  ∀ s, s.resetn = true → (s.fs.airStarted = false ∨ s.fs.slotStarted = true ∨ s.hp.openSlot ≠ none) →
    exec .slotStart s = .next s

/-- The down burst of a CRANE cell (R86 to R90, R93, R99, R175), for an open link whose only CRANE cell in the slot
lies on `h`. The first burst of the link's phase frame takes the interlock snapshot; every burst carries it. To a link
in LOST or RECOVERING, or under quay hold, the burst is HOLD; in STANDBY it is IDLE; neither changes anything else of
the link. In SERVICE it is COMMAND: the head entry of the list becomes the held command and returns to the pool, with
LIST-LOW raised when the list falls to its low mark; an empty list repeats the held command, list-dry unless it ends a
move; a second burst of the frame carries the held command again; with neither it is IDLE. In TEST it carries the next
64 bits of the link's sequence, in a second burst of the frame the same bits. -/
def Obligations.CraneBurstIsComposed : Prop :=
  ∀ s t h x role, s.resetn = true → s.fs.airStarted = true → s.fs.slotStarted = false → s.hp.openSlot = none →
    s.cell h s.fs.now.slot = .crane x role → (∀ g r, g ≠ h → s.cell g s.fs.now.slot ≠ .crane x r) →
    (s.head h).outOfService = false → (s.link x).mode ≠ .closed → exec .slotStart s = .next t →
    ∃ snap, snap = (if s.fs.now.frame.1 = (s.link x).phase ∧ (s.exch x).started = [] then (s.link x).staged
        else (s.link x).snapshot) ∧
      ((s.link x).health = .lost ∨ (s.link x).health = .recovering ∨ holdInForce s = true →
        Sends s t h x role 1#8 false [] ∧ t.link x = { s.link x with snapshot := snap } ∧
        (t.exch x).consumed = (s.exch x).consumed ∧ (t.exch x).pattern = (s.exch x).pattern) ∧
      ((s.link x).health ≠ .lost → (s.link x).health ≠ .recovering → holdInForce s = false →
        ((s.link x).mode = .standby ∨
            (s.link x).mode = .service ∧ (s.link x).held = none ∧
              ((s.exch x).consumed ≠ none ∨ (s.link x).list = []) →
          Sends s t h x role 3#8 false [] ∧ t.link x = { s.link x with snapshot := snap } ∧
          (t.exch x).consumed = (s.exch x).consumed) ∧
        (∀ c rest, (s.link x).mode = .service → (s.exch x).consumed = none → (s.link x).list = c :: rest →
          Sends s t h x role 4#8 false (commandBytes c) ∧
          t.link x = { s.link x with snapshot := snap, list := rest, held := some c } ∧
          (t.exch x).consumed = some false ∧
          ((∀ g y r, g ≠ h → s.cell g s.fs.now.slot ≠ .crane y r) → t.cle.poolFree = s.cle.poolFree + 1) ∧
          (rest.length = (s.link x).lowMark → flagSet t .listLow = true ∧ t.cp.listLowSet.getLsbD x.1 = true)) ∧
        (∀ c, (s.link x).mode = .service → (s.exch x).consumed = none → (s.link x).list = [] →
          (s.link x).held = some c → Sends s t h x role 4#8 (!c.endOfMove) (commandBytes c) ∧
          t.link x = { s.link x with snapshot := snap } ∧ (t.exch x).consumed = some (!c.endOfMove)) ∧
        (∀ c dry, (s.link x).mode = .service → (s.exch x).consumed = some dry → (s.link x).held = some c →
          Sends s t h x role 4#8 dry (commandBytes c) ∧ t.link x = { s.link x with snapshot := snap } ∧
          (t.exch x).consumed = some dry) ∧
        (∀ q, (s.link x).mode = .test → (s.exch x).pattern = some q →
          Sends s t h x role 2#8 false (be64 q) ∧ t.link x = { s.link x with snapshot := snap } ∧
          (t.exch x).pattern = some q) ∧
        ∀ p, (s.link x).mode = .test → (s.exch x).pattern = none → (s.link x).test = some p →
          ∃ q r, NextBits p.register q r ∧ Sends s t h x role 2#8 false (be64 q) ∧ (t.exch x).pattern = some q ∧
            t.link x = { s.link x with snapshot := snap, test := some { p with register := r } })

/-- A slot close (R1, R27, R33, R35, R41, R42, R127): the slot in progress ends and the slot number advances, except
at slot 23, whose close also settles every head's status window and drain timer, also when the next frame start was
taken first (with a drain begun between the two: log entry 34, the model's choice). A head whose status was seen keeps
its missed and link-up counts; without it the missed count rises and the link-up count is 0, and with the third miss
the head is ABSENT. A DRAINING head that stays in service with reservations has a timer one lower, and at 0 it is ON
with the drain failed, with the number of reservations that the slot record of the same close leaves (log entry 9, the
model's choice of R36's orders), and HEAD raised. Of the slots but slot 0, every garbled result of a CONTENTION cell,
GARBLED or failing the outer test, adds one to its head's current garbled count, and every burst that fails the outer
test one to the outer-check failure count; where a multiframe boundary has overtaken slot 23, the last garbled counts,
their sums, the exponent and the beacon's exponent are put right instead (log entry 20, the model's reading). Without
a slot in progress it is no event of air time (log entry 5). -/
def Obligations.SlotCloses : Prop :=
  (∀ s, s.resetn = true → s.hp.openSlot = none → exec .slotClose s = .next s) ∧
  ∀ s o, s.resetn = true → s.hp.openSlot = some o → (o.stale = true ∨ o.time = s.fs.now) →
    ∃ t, exec .slotClose s = .next t ∧ t.hp.openSlot = none ∧
      (o.stale = false → o.time.slot.1 < 23 → t.fs.now.mf = s.fs.now.mf ∧ t.fs.now.frame = s.fs.now.frame ∧
        t.fs.now.slot.1 = s.fs.now.slot.1 + 1 ∧ t.fs.slotStarted = false) ∧
      (o.stale = true ∨ o.time.slot = 23 → t.fs.now = s.fs.now ∧ t.fs.slotStarted = s.fs.slotStarted) ∧
      (o.time.slot.1 < 23 → ∀ h, (t.head h).statusSeen = (s.head h).statusSeen ∧
        (t.head h).missed = (s.head h).missed ∧ (t.head h).linkUp = (s.head h).linkUp) ∧
      (o.time.slot ≠ 0 → s.reg.outerFails ≤ 65535 → t.reg.outerFails = min 65535
        (s.reg.outerFails + ((List.finRange 12).filter fun h => failsOuter (o.entries.get h)).length)) ∧
      (o.time.slot ≠ 0 → o.stale = false ∨ o.rolled = none → ∀ h, (t.head h).garbledLast = (s.head h).garbledLast ∧
        (t.head h).garbled = (s.head h).garbled + if bringsGarbled (o.entries.get h) = true then 1 else 0) ∧
      (∀ b c g, o.time.slot ≠ 0 → o.stale = true → o.rolled = some b →
        c = ((List.finRange 12).map fun h => (t.head h).offeredLast).sum →
        g = ((List.finRange 12).map fun h => (t.head h).garbledLast).sum →
        (∀ h, (t.head h).offeredLast = (s.head h).offeredLast ∧ (t.head h).garbled = (s.head h).garbled ∧
          (t.head h).garbledLast = (s.head h).garbledLast +
            (if bringsGarbled (o.entries.get h) = true then 1 else 0) - if b.counted.getLsbD h.1 = true then 1 else 0) ∧
        t.rep.lastOffered = c ∧ t.rep.lastGarbled = g ∧ t.fs.beacon.exponent = t.rep.exponent ∧
        t.rep.exponent.1 = (if c = 0 then b.exponent.1 else if c < 4 * g then min 7 (b.exponent.1 + 1)
          else if 16 * g < c then b.exponent.1 - 1 else b.exponent.1)) ∧
      (o.time.slot = 23 → ∀ h, (t.head h).statusSeen = false ∧
        ((s.head h).statusSeen = true → (t.head h).missed = (s.head h).missed ∧
          (t.head h).linkUp = (s.head h).linkUp) ∧
        ((s.head h).statusSeen = false → (t.head h).missed = min 3 ((s.head h).missed + 1) ∧
          (t.head h).linkUp = 0) ∧
        ((s.head h).statusSeen = false → 2 ≤ (s.head h).missed → (t.head h).state = .absent ∧
          ((s.head h).state ≠ .absent → (t.head h).restorePending = false ∧ HeadSeen t h)) ∧
        ((s.head h).statusSeen = true ∨ (s.head h).missed < 2 →
          ((s.head h).state ≠ .draining → (t.head h).state = (s.head h).state ∧
            (t.head h).restorePending = (s.head h).restorePending) ∧
          ((s.head h).state = .draining → naming t h ≠ [] →
            (1 < (s.head h).drainTimer → (t.head h).state = .draining ∧
              (t.head h).drainTimer = (s.head h).drainTimer - 1) ∧
            ((s.head h).drainTimer ≤ 1 → (t.head h).state = .on ∧ (t.head h).drainTimer = 0 ∧
              (t.head h).drainOutcome = .failed (naming t h).length ∧ HeadSeen t h))))

/-- A failed exchange (R97, R102): the exchange of a link in STANDBY or SERVICE, SETTLED and unforced, whose only CRANE
cell of the frame, in a slot before 23, closes without a burst counts as a no-reply failure: exchanges and no-reply
rise, far-end is set, and the fault score rises by 8, here within GOOD, so the rest of the record stands. -/
def Obligations.FailedExchangeIsCounted : Prop :=
  ∀ s o h x w, s.resetn = true → s.hp.openSlot = some o → o.stale = false → o.time = s.fs.now → o.time.slot ≠ 0 →
    o.time.slot.1 < 23 → s.fs.slotStarted = true → (o.entries.get h).cell = .crane x .primary →
    (∀ g r, g ≠ h → (o.entries.get g).cell ≠ .crane x r) →
    (∀ g sl r, s.cell g sl = .crane x r → g = h ∧ sl = o.time.slot) →
    (o.entries.get h).awaited = true → (o.entries.get h).ret = none →
    ((s.link x).mode = .standby ∨ (s.link x).mode = .service) → (s.link x).health = .good →
    (s.link x).score ≤ 87 → s.record x = some w → w.state = .settled → w.forced = false → (s.exch x).opened = false →
    (s.exch x).best = none → (s.exch x).settled = false →
    ∃ t, exec .slotClose s = .next t ∧
      t.link x = { s.link x with
        score := (s.link x).score + 8
        farEnd := true
        outcomes := { (s.link x).outcomes with
          exchanges := bump (s.link x).outcomes.exchanges, noReply := bump (s.link x).outcomes.noReply } }

/-- The outcome of an exchange (R94 to R97, R101, R102, R110, R111) of a link in STANDBY or SERVICE and in GOOD,
WARNED or DEGRADED, settled at the close of a slot, of slots 1 to 22, whose only cell is the link's last CRANE cell of
the frame. A success replaces the latest status whole, takes 1 from the score, clears far-end and makes the e-stop the
link's part in quay stop; an alarm code that is new and not 0 makes a CRANE ALARM notice, at most two of them pending,
dropped and counted by the Control Port where the outbound queue is full; on the TARGET cell of a DUAL that has
started it completes the handover. A failure adds 8 to the score, capped at 255, sets far-end and counts its kind. The
health is read from the score, every change of it raises CRANE, and at 255 the link is LOST and stops the quay where
stop-on-lost is on. In a DUAL whose TARGET has started, a settlement that does not complete it raises the dual count,
and the eighth abandons it. -/
def Obligations.ExchangeOutcomesAreCounted : Prop :=
  ∀ s o h x role, OneCraneCell s o h x role → (s.link x).score ≤ 254 →
    (∀ up, Heard s o h x up → ∃ t, exec .slotClose s = .next t ∧
      (∃ pending drops, t.link x = { s.link x with
          latest := some up.status, score := (s.link x).score - 1, health := healthOf ((s.link x).score - 1),
          farEnd := false, pendingAlarms := pending, alarmDrops := drops,
          outcomes := { (s.link x).outcomes with exchanges := bump (s.link x).outcomes.exchanges } } ∧
        (up.status.alarm = alarmOf (s.link x).latest ∨ up.status.alarm = 0#8 →
          pending = (s.link x).pendingAlarms ∧ drops = (s.link x).alarmDrops) ∧
        (up.status.alarm ≠ alarmOf (s.link x).latest → up.status.alarm ≠ 0#8 →
          (2 ≤ (s.link x).pendingAlarms → pending = (s.link x).pendingAlarms ∧ drops = bump (s.link x).alarmDrops) ∧
          ((s.link x).pendingAlarms < 2 → drops = (s.link x).alarmDrops ∧
            ((outbound s).length ≤ 62 ∨ (outbound s).length = 63 ∧
                (flagSet s .quayStop = true ∨ s.cp.enables.getLsbD Flag.quayStop.bit = false) →
              pending = (s.link x).pendingAlarms + 1 ∧ .craneAlarm x (s.link x).terminal up.status.alarm
                (alarmOf (s.link x).latest) up.status.gantry s.fs.now ∈ t.cp.notices) ∧
            (64 ≤ (outbound s).length → pending = (s.link x).pendingAlarms ∧ t.cp.notices = s.cp.notices ∧
              bump s.cp.noticeDrops ≤ t.cp.noticeDrops ∧
              (s.cp.enables = 0#10 → t.cp.noticeDrops = bump s.cp.noticeDrops))))) ∧
      t.cle.contributions.getLsbD x.1 = up.status.eStop ∧
      (healthOf ((s.link x).score - 1) ≠ (s.link x).health → CraneSeen t x) ∧
      ∀ w, s.record x = some w → w.state = .dual → (s.exch x).targetStarted = true →
        (role = .target → targetHead s x = some h → (t.resv x).primary = (s.resv x).target ∧ CraneSeen t x ∧
          ∃ v, t.record x = some v ∧ v.centre = some h ∧ v.forced = false ∧ v.completed = bump w.completed ∧
            v.abandoned = w.abandoned) ∧
        (role = .primary → ∃ v, t.record x = some v ∧ v.completed = w.completed ∧
          (w.dual < 7 → t.resv x = s.resv x ∧ v.state = .dual ∧ v.dual = w.dual + 1) ∧
          (7 ≤ w.dual → v.abandoned = bump w.abandoned ∧ CraneSeen t x))) ∧
    ∀ kind n, Failed s o h x kind → (s.exch x).best = none → n = min 255 ((s.link x).score + 8) →
      ∃ t, exec .slotClose s = .next t ∧
        t.link x = { s.link x with
          score := n, health := healthOf n, farEnd := true, recovery := if n = 255 then 0 else (s.link x).recovery,
          outcomes :=
            { exchanges := bump (s.link x).outcomes.exchanges
              noReply := if kind = .noReply then bump (s.link x).outcomes.noReply else (s.link x).outcomes.noReply
              badCheck := if kind = .badCheck then bump (s.link x).outcomes.badCheck else (s.link x).outcomes.badCheck
              wrongTerminal := if kind = .wrongTerminal then bump (s.link x).outcomes.wrongTerminal
                else (s.link x).outcomes.wrongTerminal
              echoMismatch := if kind = .echoMismatch then bump (s.link x).outcomes.echoMismatch
                else (s.link x).outcomes.echoMismatch } } ∧
        (healthOf n ≠ (s.link x).health → CraneSeen t x) ∧
        (n = 255 → t.cle.contributions.getLsbD x.1 = (showsEStop (s.link x) || s.cov.settings.stopOnLost)) ∧
        ∀ w, s.record x = some w → w.state = .dual → (s.exch x).targetStarted = true →
          ∃ v, t.record x = some v ∧ v.completed = w.completed ∧
            (w.dual < 7 → t.resv x = s.resv x ∧ v.state = .dual ∧ v.dual = w.dual + 1) ∧
            (7 ≤ w.dual → v.abandoned = bump w.abandoned ∧ CraneSeen t x)

/-- The outcome of an exchange of the other links (R97, R99, R100, R103, R104), settled at the close of such a slot.
Counters, far-end and latest status follow every exchange. In LOST score and health stand. In RECOVERING a success
adds 1 to the recovery count; the sixteenth makes the link GOOD at score 0, and STANDBY where it was in SERVICE; a
failure makes it LOST. In TEST the exchange counts in the test: a success with the bits in which the pattern returned
differs from the frame's (from a free value where the frame has none, log entry 2), a failure with 64. With the number
set reached the test ends complete in STANDBY; a score that reaches 255 aborts a test not ended, this exchange
included. A forced CANDIDATE on a DRAINING head makes its attempt again after the outcome (R119), with the qualities
from before the measurements of the same record (log entry 12, the model's reading): DUAL, forced, onto the first of
its valid ON neighbours, by effective score, on which the search admits a slot, or a forced CANDIDATE of its first
choice, counted as blocked. Where its health is then LOST it is unplaced instead, its window empty with no candidate
and trigger count 0 (log entry 26, the model's reading), and a drain that this completes is complete (R34, R76). -/
def Obligations.OtherExchangesSettle : Prop :=
  (∀ s o h x role kind latest returned, LastCraneCell s o h x role → EndsIn s o h x kind latest returned →
    (s.link x).mode ≠ .closed → (∀ w, s.record x = some w → w.state = .candidate → w.forced = false) →
    ∃ t l, exec .slotClose s = .next t ∧
      l = { s.link x with
        latest := latest, farEnd := decide (kind ≠ .success), outcomes := counted (s.link x).outcomes kind,
        pendingAlarms := (t.link x).pendingAlarms, alarmDrops := (t.link x).alarmDrops } ∧
      ((s.link x).mode ≠ .test →
        ((s.link x).health = .lost → t.link x = l) ∧
        ((s.link x).health = .recovering →
          (kind = .success → (s.link x).recovery < 15 →
            t.link x = { l with recovery := (s.link x).recovery + 1 }) ∧
          (kind = .success → 15 ≤ (s.link x).recovery → CraneSeen t x ∧
            t.cle.contributions.getLsbD x.1 = showsEStop l ∧
            t.link x = { l with health := .good, score := 0, recovery := 16,
                                mode := if (s.link x).mode = .service then .standby else (s.link x).mode }) ∧
          (kind ≠ .success → CraneSeen t x ∧
            t.cle.contributions.getLsbD x.1 = (showsEStop l || s.cov.settings.stopOnLost) ∧
            t.link x = { l with health := .lost, score := 255, recovery := 0 }))) ∧
      ∀ p n errors, (s.link x).mode = .test → (s.link x).test = some p → (s.exch x).firstUp = none →
        (s.link x).health = .good ∨ (s.link x).health = .warned ∨ (s.link x).health = .degraded →
        (s.link x).score ≤ 254 →
        n = (if kind = .success then (s.link x).score - 1 else min 255 ((s.link x).score + 8)) →
        errors = p.bitErrors + (match returned with
          | some q => bitErrors ((s.exch x).pattern.getD (Config.freePattern s.freeUsed)) q
          | none => 64) →
        (p.target ≤ p.done + 1 → CraneSeen t x ∧ t.link x = { l with
          mode := .standby, test := none, testResult := some ⟨p.done + 1, errors, false⟩, score := n,
          health := healthOf n, recovery := if n = 255 then 0 else (s.link x).recovery }) ∧
        (p.done + 1 < p.target → n < 255 → t.link x = { l with
          test := some { p with done := p.done + 1, bitErrors := errors }, score := n, health := healthOf n }) ∧
        (p.done + 1 < p.target → n = 255 → CraneSeen t x ∧ t.link x = { l with
          mode := .standby, test := none, testResult := some ⟨p.done + 1, errors, true⟩, score := 255,
          health := .lost, recovery := 0 })) ∧
  ∀ s o h x role w d level, LastCraneCell s o h x role → (s.link x).mode ≠ .closed → inService s h = true →
    s.record x = some w → w.state = .candidate → w.forced = true → w.centre = some d → servingHead s x = some d →
    (s.head d).state = .draining → level = levelOf (o.entries.get h) → ∃ t, exec .slotClose s = .next t ∧
      ((t.link x).health ≠ .lost →
        (∀ p, Chosen s x d p → t.resv x = { s.resv x with target := some p } ∧
          t.record x = some (measured s.cov.settings.filter level h
            { w with candidate := some p.head, state := .dual, dual := 0, forced := true })) ∧
        (NoChoice s x d → t.resv x = s.resv x ∧ ∃ c,
          t.record x = some (measured s.cov.settings.filter level h
            { w with candidate := c, blocked := bump w.blocked }) ∧
          (∀ g, FirstChoice s x d g → c = some g) ∧ ((∀ g, ¬ FirstChoice s x d g) → c = none))) ∧
      ((t.link x).health = .lost → t.resv x = ⟨none, none⟩ ∧ (t.link x).score = 255 ∧ (t.link x).recovery = 0 ∧
        CraneSeen t x ∧
        t.record x = some { w with centre := none, leftQ := none, centreQ := none, rightQ := none, candidate := none,
                                   trigger := 0, state := .settled, forced := false } ∧
        (naming t d = [] → (t.head d).state = .off ∧ (t.head d).drainTimer = 0 ∧
          (t.head d).drainOutcome = .completed ∧ HeadSeen t d ∧ ∀ u, (t.unit u).serving ≠ some d) ∧
        (naming t d ≠ [] → (t.head d).state = .draining))

/-- The measurements and the evaluation of a slot close (R47 to R49, R53 to R56, R109, R103), of slots 1 to 22 with
one cell that calls for a return. A LISTEN or CRANE cell on a head in service is a measurement of its link there; a
head out of service yields none; a link opened in the frame takes none. After the CRANE cell of an unforced link, not
in DUAL, on its serving head, with the health its exchange leaves: a LOST link returns to SETTLED with no candidate;
where the serving head has no effective score nothing changes; without a qualifier the link is SETTLED with no
candidate and count 0; with one it is CANDIDATE, its count one up, at most 64, or 1 for a new candidate. A count at
the threshold, 1 for a DEGRADED link, starts a handover: DUAL onto the admissible place of lowest slot, or a blocked
count one higher. -/
def Obligations.SlotCloseMeasuresAndEvaluates : Prop :=
  (∀ s o h x, OnlyEntry s o h → (o.entries.get h).cell = .listen x → ∃ t, exec .slotClose s = .next t ∧
    t = { s with fs := { s.fs with now := t.fs.now, slotStarted := false }, hp := { s.hp with openSlot := none },
                 cov := { s.cov with records := t.cov.records } } ∧
    (∀ y, y ≠ x → t.record y = s.record y) ∧
    ((o.entries.get h).outOfService = true ∨ inService s h = false ∨ (s.exch x).opened = true →
      t.record x = s.record x) ∧
    ((o.entries.get h).outOfService = false → (o.entries.get h).awaited = true → inService s h = true →
      (s.exch x).opened = false →
      t.record x = (s.record x).map (measured s.cov.settings.filter (levelOf (o.entries.get h)) h))) ∧
  ∀ s o h x w v, OneCraneCell s o h x .primary → inService s h = true → servingHead s x = some h →
    s.record x = some w → w.state ≠ .dual → w.forced = false → (s.link x).score ≤ 254 →
    v = measured s.cov.settings.filter (levelOf (o.entries.get h)) h w → ∃ t u, exec .slotClose s = .next t ∧
      u = s.setRecord x (some v) ∧
      ((t.link x).health = .lost → t.resv x = s.resv x ∧
        t.record x = some { v with candidate := none, trigger := 0, state := .settled }) ∧
      ((t.link x).health ≠ .lost →
        ((∀ e, ¬ Score u x h e) → t.resv x = s.resv x ∧ t.record x = some v) ∧
        ((∃ e, Score u x h e) → (∀ q, ¬ Qualifier u x h q) → t.resv x = s.resv x ∧
          t.record x = some { v with candidate := none, trigger := 0, state := .settled }) ∧
        ∀ q n limit, Qualifier u x h q → n = (if w.candidate = some q then min 64 (w.trigger + 1) else 1) →
          limit = (if (t.link x).health = .degraded then 1 else s.cov.settings.trigger) →
          (n < limit → t.resv x = s.resv x ∧
            t.record x = some { v with candidate := some q, trigger := n, state := .candidate }) ∧
          (limit ≤ n →
            (∀ p, TargetFound s x q p → t.resv x = { s.resv x with target := some p } ∧ t.record x = some { v with
              candidate := some q, trigger := n, state := .dual, dual := 0, forced := false }) ∧
            (NoTarget s x q → t.resv x = s.resv x ∧ t.record x = some { v with
              candidate := some q, trigger := n, state := .candidate, blocked := bump w.blocked })))

/-! ## Radio heads -/

/-- A return (R39, R40): it fills the open entry of the slot in progress that it names, unless the head left service
during the slot (R29), where it is neither taken nor counted (log entry 18); any other return is counted as late. -/
def Obligations.ReturnFillsItsEntry : Prop :=
  ∀ s h mf frame slot result level bytes, s.resetn = true →
    (∀ o, s.hp.openSlot = some o → (o.entries.get h).awaited = true → (o.entries.get h).ret = none →
      o.time.mf = mf → o.time.frame.1 = frame.toNat → o.time.slot.1 = slot.toNat →
      exec (.headReturn h mf frame slot result level bytes) s = .next (if (o.entries.get h).outOfService = true then s
        else { s with hp := { s.hp with openSlot := some { o with entries := put o.entries h { o.entries.get h with
          ret := some (if result = 3#8 then ⟨.nothing, 0#8, []⟩
                       else if result = 1#8 ∧ bytes ≠ [] then ⟨.decoded, level, bytes⟩
                       else ⟨.garbled, level, []⟩) } } } })) ∧
    ((∀ o, s.hp.openSlot = some o → (o.entries.get h).awaited = false ∨ (o.entries.get h).ret ≠ none ∨
        o.time.mf ≠ mf ∨ o.time.frame.1 ≠ frame.toNat ∨ o.time.slot.1 ≠ slot.toNat) →
      exec (.headReturn h mf frame slot result level bytes) s = .next { s with hp := { s.hp with
        heads := put s.hp.heads h { s.head h with lateReturns := bump (s.head h).lateReturns } } })

/-- A status record (R26), of a head that does not leave service by it: a serial number that differs from the one held
is kept and HEAD raised; the first record of a frame counts; OFF and FAULT follow the fault flag, with HEAD raised; a
head ON or DRAINING without fault keeps its state. Of an ABSENT head the first record of its frame raises the link-up
count from 0 to 1, and from 1 brings the head up, to FAULT or OFF by its fault flag, with HEAD raised. The row
HEAD_LINK_UP acts only where the head comes up by it (log entry 8). -/
def Obligations.StatusRecordIsTaken : Prop :=
  (∀ s h serial fault, s.resetn = true → (s.head h).state ≠ .absent → (inService s h = true → fault = false) →
    ∃ t, exec (.headStatusRecord h serial fault) s = .next t ∧
      t = { s with hp := { s.hp with heads := put s.hp.heads h (t.head h) }, cp := t.cp } ∧
      (t.head h).serial = some serial ∧ (t.head h).statusSeen = true ∧
      ((s.head h).serial ≠ some serial → HeadSeen t h) ∧
      ((s.head h).statusSeen = false → (t.head h).missed = 0) ∧
      (t.head h).linkUp = (s.head h).linkUp ∧
      ((s.head h).state = .off → fault = true → (t.head h).state = .fault ∧ (t.head h).restorePending = false ∧
        HeadSeen t h) ∧
      ((s.head h).state = .fault → fault = false → (t.head h).state = .off ∧ HeadSeen t h) ∧
      ((s.head h).state = .off ∧ fault = false ∨ (s.head h).state = .fault ∧ fault = true ∨ inService s h = true →
        (t.head h).state = (s.head h).state ∧ (t.head h).restorePending = (s.head h).restorePending ∧
        ((s.head h).serial = some serial → t.cp = s.cp))) ∧
  ∀ s h serial fault, s.resetn = true → (s.head h).state = .absent → (s.head h).statusSeen = false →
    ((s.head h).linkUp = 1 → ∃ t, exec (.headStatusRecord h serial fault) s = .next t ∧
      exec (.headLinkUp h serial fault) s = .next t ∧ HeadSeen t h ∧ Raised .head (BitVec.ofNat 8 h.1) s t ∧
      t = { s with hp := { s.hp with heads := put s.hp.heads h { s.head h with
        state := if fault = true then .fault else .off, serial := some serial, statusSeen := true, missed := 0,
        linkUp := 0 } }, cp := t.cp }) ∧
    ((s.head h).linkUp = 0 → exec (.headLinkUp h serial fault) s = .next s ∧
      ∃ t, exec (.headStatusRecord h serial fault) s = .next t ∧
        t = { s with hp := { s.hp with heads := put s.hp.heads h { s.head h with
          serial := some serial, statusSeen := true, missed := 0, linkUp := 1 } }, cp := t.cp })

/-- Loss while serving (R28, R29, R131), by the third missed frame (R27) or by a status record with the fault flag set
(R26): the head enters ABSENT or FAULT out of service with its drain ended and HEAD raised, and no reservation and no
unit entry names it any more. A head that is not in service and misses its third frame only becomes ABSENT. -/
def Obligations.HeadIsLost : Prop :=
  (∀ s h, s.resetn = true → HeadLaw s → inService s h = true →
    ((s.head h).statusSeen = false → 2 ≤ (s.head h).missed →
      ∃ t, exec (.headMissedAbsent h) s = .next t ∧ (t.head h).state = .absent ∧ (t.head h).linkUp = 0 ∧
        (t.head h).missed = 3 ∧ (t.head h).restorePending = false ∧ (t.head h).outOfService = true ∧
        ((s.head h).state = .draining → (t.head h).drainTimer = 0 ∧ (t.head h).drainOutcome = .cancelled) ∧
        HeadSeen t h ∧ (∀ r ∈ table t, r.place.head ≠ h) ∧ ∀ u, (t.unit u).serving ≠ some h) ∧
    ∀ serial, ∃ t, exec (.headStatusRecord h serial true) s = .next t ∧ (t.head h).state = .fault ∧
      (t.head h).restorePending = false ∧ (t.head h).outOfService = true ∧
      ((s.head h).state = .draining → (t.head h).drainTimer = 0 ∧ (t.head h).drainOutcome = .cancelled) ∧
      HeadSeen t h ∧ (∀ r ∈ table t, r.place.head ≠ h) ∧ ∀ u, (t.unit u).serving ≠ some h) ∧
  ∀ s h, s.resetn = true → (s.head h).statusSeen = false → 2 ≤ (s.head h).missed →
    ((s.head h).state = .off ∨ (s.head h).state = .fault) →
    ∃ t, exec (.headMissedAbsent h) s = .next t ∧ HeadSeen t h ∧ Raised .head (BitVec.ofNat 8 h.1) s t ∧
      t = { s with hp := { s.hp with heads := put s.hp.heads h { s.head h with
        state := .absent, missed := 3, linkUp := 0, restorePending := false } }, cp := t.cp }

/-- What the loss of a head does to the links (R50, R114 to R116, R76, R103): a link in DUAL served on it completes
onto its target; a DUAL onto it is abandoned, SETTLED or, on a DRAINING serving head, a forced CANDIDATE. A link
served there that is not in DUAL, and alone holds reservations there, makes an emergency move, its own reservation
left out of the collision test: to the first of its valid ON neighbours, by effective score, on which the search
admits a slot, with its record kept, or where there is none it is unplaced, its window empty with no candidate and
trigger count 0 (log entry 26, the model's reading), LOST at score 255 with a running test aborted. CRANE is raised
for each. A link without a reservation on the head keeps its record and its reservations; in every handover record the
lost head's quality is invalid. Where the release of a TARGET settles an exchange that completes the drain of a
further head, that head's quality is invalid too; elsewhere (`NoneSettles`) nothing more changes. -/
def Obligations.HeadLossMovesItsLinks : Prop :=
  ∀ s h i, s.resetn = true → HeldLaw s → inService s h = true →
    (i = .headMissedAbsent h ∧ (s.head h).statusSeen = false ∧ 2 ≤ (s.head h).missed ∨
      ∃ serial, i = .headStatusRecord h serial true) →
    ∃ t, exec i s = .next t ∧
      (∀ x w q, servingHead s x = some h → s.record x = some w → w.state = .dual → (s.resv x).target = some q →
        t.resv x = ⟨some q, none⟩ ∧ CraneSeen t x ∧ ∃ v e, t.record x = some v ∧ Faded e v ∧
          e = { (w.invalidate h).recentre q.head with state := .settled, forced := false, completed := bump w.completed } ∧
          (NoneSettles s h → v = e)) ∧
      (∀ x w k, targetHead s x = some h → s.record x = some w → servingHead s x = some k →
        ((s.head k).state = .on ∨ (s.head k).state = .draining ∧ (s.exch x).best = none) →
        t.resv x = { s.resv x with target := none } ∧ CraneSeen t x ∧ ∃ v e, t.record x = some v ∧ Faded e v ∧
          e = { w.invalidate h with
            candidate := none, trigger := 0, abandoned := bump w.abandoned,
            forced := decide ((s.head k).state = .draining),
            state := if (s.head k).state = .draining then .candidate else .settled } ∧
          (NoneSettles s h → v = e)) ∧
      (∀ x w, servingHead s x = some h → s.record x = some w → w.state ≠ .dual → OnlyLinkOn s h x → CraneSeen t x ∧
        (∀ p, Chosen (withoutLink s x) x h p → t.resv x = ⟨some p, none⟩ ∧
          t.record x = some { (w.invalidate h).recentre p.head with state := .settled, forced := false } ∧
          ((s.exch x).best = none → t.link x = s.link x)) ∧
        (NoChoice (withoutLink s x) x h → t.resv x = ⟨none, none⟩ ∧
          t.record x = some { w with centre := none, leftQ := none, centreQ := none, rightQ := none, candidate := none,
                                     trigger := 0, state := .settled, forced := false } ∧
          (t.link x).health = .lost ∧ (t.link x).score = 255 ∧ (t.link x).recovery = 0 ∧
          ((s.exch x).best = none → (s.link x).mode ≠ .test →
            t.link x = { s.link x with health := .lost, score := 255, recovery := 0 }) ∧
          ∀ p, (s.exch x).best = none → (s.link x).mode = .test → (s.link x).test = some p →
            t.link x = { s.link x with health := .lost, score := 255, recovery := 0, mode := .standby, test := none,
                                       testResult := some ⟨p.done, p.bitErrors, true⟩ })) ∧
      ∀ x, servingHead s x ≠ some h → targetHead s x ≠ some h → t.link x = s.link x ∧ t.resv x = s.resv x ∧
        (s.record x = none → t.record x = none) ∧
        ∀ w, s.record x = some w → ∃ v, t.record x = some v ∧ Faded (w.invalidate h) v ∧
          (NoneSettles s h → v = w.invalidate h)

/-- Drain expiry (R35, R120): the head becomes ON with outcome FAILED and the number of reservations that name it, HEAD
is raised, and a link served on it in a forced CANDIDATE returns to SETTLED, one in DUAL loses its forced flag. A
head whose timer is not due keeps everything (log entry 8). -/
def Obligations.DrainExpires : Prop :=
  (∀ s h, s.resetn = true → (s.head h).state = .draining → (s.head h).drainTimer ≤ 1 →
    ∃ t, exec (.drainExpiry h) s = .next t ∧ HeadSeen t h ∧ Raised .head (BitVec.ofNat 8 h.1) s t ∧
      t = { s with hp := { s.hp with heads := put s.hp.heads h { s.head h with
                     state := .on, drainTimer := 0, drainOutcome := .failed (naming s h).length } },
                   cov := { s.cov with records := t.cov.records }, cp := t.cp } ∧
      (∀ x, servingHead s x ≠ some h → t.record x = s.record x) ∧
      (∀ x w, servingHead s x = some h → s.record x = some w → t.record x = some (
        if w.state = .dual then { w with forced := false }
        else if w.state = .candidate ∧ w.forced = true then
          { w with state := .settled, candidate := none, trigger := 0, forced := false }
        else w))) ∧
  ∀ s h, s.resetn = true → ((s.head h).state ≠ .draining ∨ 1 < (s.head h).drainTimer) →
    exec (.drainExpiry h) s = .next s

/-- The head link receiver (R177): the bytes of a status record, received while hunting, act as the record once the last
is in; a byte other than 0xC3 is passed over; 400 µs without a byte discard the message in reception. -/
def Obligations.HeadLinkBytesAreARecord : Prop :=
  (∀ s h serial fault, s.resetn = true → s.hp.rx.get h = [] →
    receiveOnHead h (statusBytes serial fault) s = exec (.headStatusRecord h serial fault) s) ∧
  (∀ s h b, s.resetn = true → s.hp.rx.get h = [] →
    exec (.headLinkByteReceived h b) s =
      .next (if b = 0xC3#8 then { s with hp := { s.hp with rx := put s.hp.rx h [0xC3#8] } } else s)) ∧
  ∀ s h, s.resetn = true → exec (.headLinkGap h) s = .next { s with hp := { s.hp with rx := put s.hp.rx h [] } }

/-- HEAD RESTORE (R30): refused with RANGE for no head and with STATE in ABSENT and FAULT; an OFF head gets restore
pending, an ON head keeps everything, and a DRAINING head becomes ON with its drain cancelled and its forced handovers
ended (R120). -/
def Obligations.HeadRestoreIsAnswered : Prop :=
  ∀ tag head s, Ready s →
    (12 ≤ head.toNat → Answers (.headRestore tag head) 0x20#8 tag .range id s) ∧
    ∀ h : HeadNo, head.toNat = h.1 →
      ((s.head h).state = .absent ∨ (s.head h).state = .fault →
        Answers (.headRestore tag head) 0x20#8 tag (.state .noneGiven) id s) ∧
      ((s.head h).state = .off → Answers (.headRestore tag head) 0x20#8 tag (.ok (.headRestore .off true))
        (fun u => u.setHead h { s.head h with restorePending := true }) s) ∧
      ((s.head h).state = .on → Answers (.headRestore tag head) 0x20#8 tag
        (.ok (.headRestore .on (s.head h).restorePending)) id s) ∧
      ((s.head h).state = .draining → ∃ t, exec (.headRestore tag head) s = .next t ∧
        t = { s with hp := { s.hp with heads := put s.hp.heads h { s.head h with
                       state := .on, drainTimer := 0, drainOutcome := .cancelled } },
                     cov := { s.cov with records := t.cov.records },
                     cp := { s.cp with replies := s.cp.replies ++
                       [.reply 0x20#8 tag (.ok (.headRestore .on (s.head h).restorePending))] } } ∧
        (∀ x, servingHead s x ≠ some h → t.record x = s.record x) ∧
        ∀ x w, servingHead s x = some h → s.record x = some w → t.record x = some (
          if w.state = .dual then { w with forced := false }
          else if w.state = .candidate ∧ w.forced = true then
            { w with state := .settled, candidate := none, trigger := 0, forced := false }
          else w))

/-- HEAD RETIRE (R32, R34): refused with RANGE for no head and with STATE in ABSENT, FAULT and DRAINING; an OFF head
loses restore pending; an ON head drains: it is DRAINING at 256 frames, or already OFF by drain completion, its units
unhomed and HEAD raised, when no reservation names it any more. The reply names the slot in which the command was
taken (log entry 39). What a drain start does to the links: `DrainStartMovesItsLinks`. -/
def Obligations.HeadRetireIsAnswered : Prop :=
  ∀ tag head s, Ready s →
    (12 ≤ head.toNat → Answers (.headRetire tag head) 0x21#8 tag .range id s) ∧
    ∀ h : HeadNo, head.toNat = h.1 →
      ((s.head h).state = .absent ∨ (s.head h).state = .fault ∨ (s.head h).state = .draining →
        Answers (.headRetire tag head) 0x21#8 tag (.state .noneGiven) id s) ∧
      ((s.head h).state = .off → Answers (.headRetire tag head) 0x21#8 tag
        (.ok (.headRetire .off (s.head h).drainTimer s.fs.now))
        (fun u => u.setHead h { s.head h with restorePending := false }) s) ∧
      ((s.head h).state = .on → ∃ t, exec (.headRetire tag head) s = .next t ∧
        .reply 0x21#8 tag (.ok (.headRetire (t.head h).state (t.head h).drainTimer s.fs.now)) ∈ t.cp.replies ∧
        (naming t h ≠ [] → (t.head h).state = .draining ∧ (t.head h).drainTimer = 256) ∧
        (naming t h = [] → (t.head h).state = .off ∧ (t.head h).drainTimer = 0 ∧
          (t.head h).drainOutcome = .completed ∧ HeadSeen t h ∧ ∀ u, (t.unit u).serving ≠ some h))

/-- What the start of a drain does to the links (R118, R119, R76): no target lies on the head, and every LOST link it
served is unplaced. A DUAL from it runs on, forced; a DUAL onto it is abandoned. A link served there alone makes a
forced attempt (R119): DUAL, forced, onto the first of its valid ON neighbours, by effective score, on which the
search admits a slot, or where none admits one a forced CANDIDATE of its first choice, counted as blocked. Where a
release completes the drain of a further head, that head's quality is invalid (R50) in the record of a DUAL that runs
on; elsewhere it keeps all but the forced flag. -/
def Obligations.DrainStartMovesItsLinks : Prop :=
  ∀ tag head s (h : HeadNo), Ready s → HeldLaw s → head.toNat = h.1 → (s.head h).state = .on →
    ∃ t, exec (.headRetire tag head) s = .next t ∧
      (∀ x, targetHead t x ≠ some h) ∧
      (∀ x, servingHead s x = some h → (s.link x).health = .lost → t.resv x = ⟨none, none⟩) ∧
      (∀ x w, servingHead s x = some h → (s.link x).health ≠ .lost → s.record x = some w → w.state = .dual →
        t.resv x = s.resv x ∧ ∃ v, t.record x = some v ∧ Faded { w with forced := true } v ∧
          (NoneSettles s h → (∀ z g, targetHead s z = some g → (s.head g).state ≠ .draining) →
            v = { w with forced := true })) ∧
      (∀ x w k, targetHead s x = some h → s.record x = some w → servingHead s x = some k → (s.head k).state = .on →
        t.resv x = { s.resv x with target := none } ∧ CraneSeen t x ∧
        ∃ v, t.record x = some v ∧ v.state = .settled ∧ v.forced = false ∧ v.candidate = none ∧ v.trigger = 0 ∧
          v.abandoned = bump w.abandoned) ∧
      ∀ x w, OnlyLinkOn s h x → servingHead s x = some h → (s.link x).health ≠ .lost → s.record x = some w →
        w.state ≠ .dual →
        (∀ p, Chosen s x h p → t.resv x = { s.resv x with target := some p } ∧
          t.record x = some { w with candidate := some p.head, state := .dual, dual := 0, forced := true }) ∧
        (NoChoice s x h → t.resv x = s.resv x ∧ ∃ c, t.record x = some { w with
            candidate := c, state := .candidate, forced := true, blocked := bump w.blocked } ∧
          (∀ g, FirstChoice s x h g → c = some g) ∧ ((∀ g, ¬ FirstChoice s x h g) → c = none))

/-- HEAD QUERY (R37): a head above 11 gives RANGE, any other its record with the number of reservations that name it; no
state changes. -/
def Obligations.HeadQueryIsAnswered : Prop :=
  ∀ tag head s, Ready s →
    (12 ≤ head.toNat → Answers (.headQuery tag head) 0x22#8 tag .range id s) ∧
    ∀ h : HeadNo, head.toNat = h.1 → Answers (.headQuery tag head) 0x22#8 tag
      (.ok (.headQuery { s.head h with outOfService := false }
        ((table s).filter fun r => decide (r.place.head = h)).length)) id s

/-! ## Crane links: parts of a slot close (log entry 8) -/

/-- RECOVERY_COMPLETE (R104, R101): the sixteenth success of an open RECOVERING link makes its health GOOD and its
score 0, takes a SERVICE link to STANDBY and raises CRANE; other links stand. TEST_COMPLETE (R99): the last exchange
of a test, with its bit errors, stores the result, returns the link to STANDBY and raises CRANE. Elsewhere neither
changes anything. -/
def Obligations.RecoveryAndTestComplete : Prop :=
  ((∀ s x, s.resetn = true → (s.link x).mode ≠ .closed → (s.link x).health = .recovering → 15 ≤ (s.link x).recovery →
    ∃ t, exec (.recoveryComplete x) s = .next t ∧ CraneSeen t x ∧
      t.link x = { s.link x with
        health := .good, score := 0, recovery := 16,
        mode := if (s.link x).mode = .service then .standby else (s.link x).mode } ∧
      OthersKept x s t ∧ t.resv x = s.resv x ∧ t.record x = s.record x ∧
      t = { s with cle := { s.cle with links := t.cle.links, contributions := t.cle.contributions,
                                       qstop := t.cle.qstop }, cp := t.cp }) ∧
  ∀ s x, s.resetn = true → ((s.link x).mode = .closed ∨ (s.link x).health ≠ .recovering ∨ (s.link x).recovery < 15) →
    exec (.recoveryComplete x) s = .next s) ∧
  (∀ s x d p, s.resetn = true → (s.link x).mode = .test → (s.link x).test = some p → p.target ≤ p.done + 1 →
    ∃ t, exec (.testComplete x d) s = .next t ∧ CraneSeen t x ∧ Raised .crane (BitVec.ofNat 8 x.1) s t ∧
      t = { s with cle := { s.cle with links := put s.cle.links x { s.link x with
        mode := .standby, test := none, testResult := some ⟨p.done + 1, p.bitErrors + d.1, false⟩ } }, cp := t.cp }) ∧
  ∀ s x d, s.resetn = true → ((s.link x).mode ≠ .test ∨ ∀ p, (s.link x).test = some p → p.done + 1 < p.target) →
    exec (.testComplete x d) s = .next s

/-- HANDOVER_ABANDON (R112): the eighth settlement of a DUAL without completion releases the TARGET, counts the
abandonment and raises CRANE; the link stays on its serving head, SETTLED, or as a forced CANDIDATE when that head is
DRAINING. Elsewhere nothing changes. -/
def Obligations.HandoverIsAbandoned : Prop :=
  (∀ s x w, s.resetn = true → s.record x = some w → w.state = .dual → 7 ≤ w.dual →
    ∃ t v, exec (.handoverAbandon x) s = .next t ∧ CraneSeen t x ∧ t.record x = some v ∧
      t.resv x = { s.resv x with target := none } ∧ t.link x = s.link x ∧
      v.abandoned = bump w.abandoned ∧ v.completed = w.completed ∧ v.blocked = w.blocked ∧ v.candidate = none ∧
      v.trigger = 0 ∧ v.centre = w.centre ∧
      (∀ h, servingHead s x = some h → (s.head h).state = .on → v.state = .settled ∧ v.forced = false) ∧
      (∀ h, servingHead s x = some h → (s.head h).state = .draining → targetHead s x ≠ some h →
        v.state = .candidate ∧ v.forced = true) ∧
      ∀ y, y ≠ x → t.link y = s.link y ∧ t.resv y = s.resv y) ∧
  ∀ s x, s.resetn = true → (∀ w, s.record x = some w → w.state ≠ .dual ∨ w.dual < 7) →
    exec (.handoverAbandon x) s = .next s

/-- HANDOVER_START (R52, R55, R56, R67, R109): an evaluation of a placed link in STANDBY or SERVICE and in GOOD,
WARNED or DEGRADED, unforced and not in DUAL, whose qualifier brings the trigger count to the threshold, 1 for a
DEGRADED link: the candidate is the qualifier, and the link enters DUAL with dual count 0 onto the admissible place of
lowest slot there with its period and phase, or where no place is admissible the blocked count rises. Elsewhere
nothing changes. -/
def Obligations.HandoverStarts : Prop :=
  (∀ s x c w q n, s.resetn = true → s.record x = some w → servingHead s x = some c → w.state ≠ .dual →
    w.forced = false → (s.link x).mode = .standby ∨ (s.link x).mode = .service →
    (s.link x).health = .good ∨ (s.link x).health = .warned ∨ (s.link x).health = .degraded → Qualifier s x c q →
    n = (if w.candidate = some q then min 64 (w.trigger + 1) else 1) →
    (if (s.link x).health = .degraded then 1 else s.cov.settings.trigger) ≤ n →
    ∃ t, exec (.handoverStart x) s = .next t ∧
      (∀ p, TargetFound s x q p → t.resv x = { s.resv x with target := some p } ∧ t.record x = some { w with
          candidate := some q, state := .dual, dual := 0, forced := false, trigger := n }) ∧
      (NoTarget s x q → t.resv x = s.resv x ∧ t.record x = some { w with
          candidate := some q, state := .candidate, blocked := bump w.blocked, trigger := n }) ∧
      t.cle.links = s.cle.links ∧ t.cp = s.cp ∧ OthersKept x s t) ∧
  ∀ s x, s.resetn = true → (∀ c w q, s.record x = some w → servingHead s x = some c → w.state ≠ .dual →
    w.forced = false → (s.link x).mode = .standby ∨ (s.link x).mode = .service →
    (s.link x).health = .good ∨ (s.link x).health = .warned ∨ (s.link x).health = .degraded → Qualifier s x c q →
    (if w.candidate = some q then min 64 (w.trigger + 1) else 1) <
      (if (s.link x).health = .degraded then 1 else s.cov.settings.trigger)) →
    exec (.handoverStart x) s = .next s

/-! ## The Reefer Registry: parts of a boundary and of a slot close (log entry 8) -/

/-- Ageing and unanswered polls of one entry (R132, R134): a LISTED entry whose age exceeds its report interval plus 2
becomes POLLING at the tail of the poll queue; one whose age exceeds four intervals, LISTED or POLLING, becomes SILENT
and leaves the queue with live SILENT set; a SILENT entry whose age exceeds its gone time becomes GONE and TABLE is
raised; a POLLING entry whose attempts reach its profile's value becomes SILENT. Elsewhere nothing changes, so an entry
whose age exceeds four intervals does not become POLLING. -/
def Obligations.UnitEntriesAge : Prop :=
  ∀ s u, s.resetn = true →
    ((s.unit u).state = .listed → (profileOf s u).report + 2 < unitAge s.fs.now s u →
      unitAge s.fs.now s u ≤ 4 * (profileOf s u).report →
      exec (.unitBecomesPolling u) s = .next { s with reg := { s.reg with
        units := put s.reg.units u { s.unit u with state := .polling, attempts := 0 },
        pollQueue := s.reg.pollQueue.filter (· != u) ++ [u] } }) ∧
    ((s.unit u).state ≠ .listed ∨ unitAge s.fs.now s u ≤ (profileOf s u).report + 2 ∨
        4 * (profileOf s u).report < unitAge s.fs.now s u →
      exec (.unitBecomesPolling u) s = .next s) ∧
    ((s.unit u).state = .listed ∨ (s.unit u).state = .polling → 4 * (profileOf s u).report < unitAge s.fs.now s u →
      ∃ t, exec (.unitBecomesSilentByAge u) s = .next t ∧
        t = { s with
          reg := { s.reg with
            units := put s.reg.units u { s.unit u with
              state := .silent, live := (s.unit u).live ||| 4#4, latched := (t.unit u).latched },
            pollQueue := s.reg.pollQueue.filter (· != u) },
          rep := t.rep, cp := t.cp } ∧
        ((s.unit u).live &&& 4#4 = 0#4 → (t.unit u).latched = (s.unit u).latched ||| 4#4)) ∧
    ((s.unit u).state ≠ .listed ∧ (s.unit u).state ≠ .polling ∨ unitAge s.fs.now s u ≤ 4 * (profileOf s u).report →
      exec (.unitBecomesSilentByAge u) s = .next s) ∧
    ((s.unit u).state = .silent → (profileOf s u).gone < unitAge s.fs.now s u →
      ∃ t, exec (.unitBecomesGone u) s = .next t ∧ flagSet t .table = true ∧ Raised .table 255#8 s t ∧
        t = { s with reg := { s.reg with units := put s.reg.units u { s.unit u with
          state := .gone, goneSince := some s.fs.now.mf } }, cp := t.cp }) ∧
    ((s.unit u).state ≠ .silent ∨ unitAge s.fs.now s u ≤ (profileOf s u).gone →
      exec (.unitBecomesGone u) s = .next s) ∧
    ((s.unit u).state = .polling → (profileOf s u).attempts ≤ (s.unit u).attempts + 1 →
      ∃ t, exec (.pollAttemptsExhausted u) s = .next t ∧ (t.unit u).state = .silent ∧
        (t.unit u).attempts = min 7 ((s.unit u).attempts + 1) ∧ (t.unit u).live = (s.unit u).live ||| 4#4 ∧
        t.reg.pollQueue = s.reg.pollQueue.filter (· != u) ∧ ∀ v, v ≠ u → t.unit v = s.unit v) ∧
    ((s.unit u).state ≠ .polling ∨ (s.unit u).attempts + 1 < (profileOf s u).attempts →
      exec (.pollAttemptsExhausted u) s = .next s)

/-- What a multiframe boundary and an unanswered poll do to the unit table (R129, R132, R134, R148). At a boundary
every entry that is not FREE is examined at the new multiframe number: LISTED or POLLING beyond four report intervals
it becomes SILENT, with live SILENT set and, newly set, latched and recorded; else LISTED beyond its interval plus 2
POLLING with 0 attempts; SILENT beyond its gone time GONE, with TABLE raised; a gone age, and in every entry a
delivery age, that reaches 32767 is pinned there. The entries that became SILENT or POLLING leave the poll queue, and
those that became POLLING join its tail in ascending index. An unanswered poll of a POLLING entry short of its
profile's attempts adds one attempt and moves it to the tail, also one whose return fails the outer test (R127), which
is counted besides; an entry no longer POLLING, or of another id, stands. -/
def Obligations.BoundariesAndPollsActOnUnits : Prop :=
  (∀ s (due silent : UnitNo → Bool), s.resetn = true → s.fs.airStarted = true → s.fs.now.frame = 15 →
    (∀ u, silent u = decide (((s.unit u).state = .listed ∨ (s.unit u).state = .polling) ∧
      4 * (profileOf s u).report < (s.fs.now.mf + 1#16 - (s.unit u).lastHeard).toNat)) →
    (∀ u, due u = decide ((s.unit u).state = .listed ∧ silent u = false ∧
      (profileOf s u).report + 2 < (s.fs.now.mf + 1#16 - (s.unit u).lastHeard).toNat)) →
    ∃ t, exec .frameStart s = .next t ∧
      (∀ u, (s.unit u).state = .free → t.unit u = s.unit u) ∧
      (∀ u, (s.unit u).state ≠ .free → ∃ snap,
        snap = ((s.unit u).snapshot.map fun d =>
          if 32767 ≤ (s.fs.now.mf + 1#16 - d.mf).toNat then { d with mf := s.fs.now.mf + 1#16 - 32767#16 } else d) ∧
        (silent u = true → t.unit u = { s.unit u with
          state := .silent, live := (s.unit u).live ||| 4#4, snapshot := snap,
          latched := if (s.unit u).live &&& 4#4 = 0#4 then (s.unit u).latched ||| 4#4 else (s.unit u).latched }) ∧
        (due u = true → t.unit u = { s.unit u with state := .polling, attempts := 0, snapshot := snap }) ∧
        ((s.unit u).state = .silent →
          (profileOf s u).gone < (s.fs.now.mf + 1#16 - (s.unit u).lastHeard).toNat → flagSet t .table = true ∧
          t.unit u = { s.unit u with state := .gone, goneSince := some (s.fs.now.mf + 1#16), snapshot := snap }) ∧
        ((s.unit u).state = .gone → t.unit u = { s.unit u with
          goneSince := (s.unit u).goneSince.map fun g =>
            if 32767 ≤ (s.fs.now.mf + 1#16 - g).toNat then s.fs.now.mf + 1#16 - 32767#16 else g, snapshot := snap }) ∧
        (((s.unit u).state = .listed ∨ (s.unit u).state = .polling) ∧ silent u = false ∧ due u = false ∨
            (s.unit u).state = .silent ∧
              (s.fs.now.mf + 1#16 - (s.unit u).lastHeard).toNat ≤ (profileOf s u).gone →
          t.unit u = { s.unit u with snapshot := snap })) ∧
      t.reg.pollQueue = s.reg.pollQueue.filter (fun u => !(silent u || due u)) ++ (List.finRange 1024).filter due ∧
      AlarmsHanded s t (((List.finRange 1024).filter fun u => silent u && (s.unit u).live &&& 4#4 == 0#4).map fun u =>
        ⟨(s.unit u).unitId, u, .silent, t.fs.now, (s.unit u).readings⟩)) ∧
  ∀ s o h u id reg, OnlyCell s o h → (o.entries.get h).cell = .poll u id →
    (∀ r, (o.entries.get h).ret = some r → r.result ≠ .decoded) ∧ reg = s.reg ∨
      failsOuter (o.entries.get h) = true ∧ reg = { s.reg with outerFails := bump s.reg.outerFails } →
    ∃ t, exec .slotClose s = .next t ∧
      ((s.unit u).state ≠ .polling ∨ (s.unit u).unitId ≠ id → t.reg = reg ∧ t.rep = s.rep ∧ t.cp = s.cp) ∧
      ((s.unit u).state = .polling → (s.unit u).unitId = id →
        ((s.unit u).attempts + 1 < (profileOf s u).attempts → t.rep = s.rep ∧ t.cp = s.cp ∧ t.reg = { reg with
          units := put s.reg.units u { s.unit u with attempts := min 7 ((s.unit u).attempts + 1) }
          pollQueue := s.reg.pollQueue.filter (· != u) ++ [u] }) ∧
        ((profileOf s u).attempts ≤ (s.unit u).attempts + 1 → (t.unit u).state = .silent ∧
          (t.unit u).attempts = min 7 ((s.unit u).attempts + 1) ∧ (t.unit u).live = (s.unit u).live ||| 4#4 ∧
          t.reg.pollQueue = s.reg.pollQueue.filter (· != u) ∧ t.reg.outerFails = reg.outerFails ∧
          ∀ v, v ≠ u → t.unit v = s.unit v))

/-- The arrival of a slot record (R127 to R130, R123, R149): the burst of a slot with one reefer cell is accepted by the
first enabled filter that matches its unit id, where that one accepts, and is else foreign, counted and dropped. A
PERIODIC or POLLED burst of a unit without an entry is stray, counted and dropped; one with its entry's last sequence
number is a duplicate, which relists and homes the entry. A JOIN or a new report lists and homes its entry, a JOIN of a
new unit in the FREE entry of lowest index or else in the one GONE longest, and is processed (`ReportsAreProcessed`); a
JOIN that finds neither is refused, counted, and raises TABLE. Every acknowledged arrival joins the ack queue, where it
drives out the oldest of 32, and takes its entry out of the poll queue; no other entry and no head changes. -/
def Obligations.ArrivalsUpdateTheRegistry : Prop :=
  (∀ s id p, acceptedProfile s id = some p ↔ ∃ i : Fin 8, (s.reg.filters.get i).enabled = true ∧
    (s.reg.filters.get i).action = .accept ∧ (s.reg.filters.get i).profile = p ∧
    id &&& (if i.1 < 6 then s.reg.mask else (s.reg.filters.get i).ownMask) =
      (s.reg.filters.get i).pattern &&& (if i.1 < 6 then s.reg.mask else (s.reg.filters.get i).ownMask) ∧
    ∀ j < i, (s.reg.filters.get j).enabled = true →
      id &&& (if j.1 < 6 then s.reg.mask else (s.reg.filters.get j).ownMask) ≠
        (s.reg.filters.get j).pattern &&& (if j.1 < 6 then s.reg.mask else (s.reg.filters.get j).ownMask)) ∧
  ∀ s o h b level, OneBurst s o h b level → UnitIdLaw s → ∃ t, exec .slotClose s = .next t ∧
    t = { s with fs := { s.fs with now := t.fs.now, slotStarted := false }, hp := { s.hp with openSlot := none },
                 reg := t.reg, rep := t.rep, cp := t.cp } ∧
    (acceptedProfile s b.unitId = none → t.reg.foreign = bump s.reg.foreign ∧ t.rep.acks = s.rep.acks ∧
      ((o.entries.get h).cell = .contention →
        t.reg = { s.reg with foreign := bump s.reg.foreign } ∧ t.rep = s.rep ∧ t.cp = s.cp)) ∧
    ∀ p, acceptedProfile s b.unitId = some p →
      (b.kind ≠ .join → NotHeld s b.unitId →
        t.reg = { s.reg with stray := bump s.reg.stray } ∧ t.rep = s.rep ∧ t.cp = s.cp) ∧
      (∀ u, b.kind ≠ .join → (s.unit u).state ≠ .free → (s.unit u).unitId = b.unitId → b.seq = (s.unit u).lastSeq →
        t.reg = { s.reg with
          units := put s.reg.units u (reported (s.unit u) h level s.fs.now.mf b)
          pollQueue := s.reg.pollQueue.filter (· != u) } ∧
        AckJoined s t ⟨b.unitId, b.seq⟩ ∧ t.rep = { s.rep with acks := t.rep.acks, ackLoss := t.rep.ackLoss } ∧
        t.cp = s.cp) ∧
      (∀ u e, Processed s h p level b u e → SameService e (t.unit u) ∧ AckJoined s t ⟨b.unitId, b.seq⟩ ∧
        t.reg = { s.reg with units := put s.reg.units u (t.unit u), pollQueue := t.reg.pollQueue } ∧
        (NotHeld s b.unitId → t.reg.pollQueue = s.reg.pollQueue) ∧
        (¬ NotHeld s b.unitId → t.reg.pollQueue = s.reg.pollQueue.filter (· != u))) ∧
      (b.kind = .join → NotHeld s b.unitId → (∀ u, (s.unit u).state ≠ .free ∧ (s.unit u).state ≠ .gone) →
        t.reg = { s.reg with refusedJoins := bump s.reg.refusedJoins } ∧ t.rep = s.rep ∧ flagSet t .table = true)

/-- The processing of a report into its entry (R141 to R147, R151, R152, R154), `e` the entry as the arrival left it.
A suspect report is recorded as received, with the clamped and sensor-absent flags clear (log entry 32, the model's
reading), and changes nothing else. Any other stores its readings, the temperatures clamped, an absent supply held
over; sets or clears live POWER, UNIT and, with a supply, EXCURSION with its run; latches the kinds newly set and
hands on their alarm records; and is handed to the report queue where the snapshot is absent or the report differs
from it by the deadband, in setpoint, power or alarm, or lies a forward interval behind it. A record that joins
becomes the snapshot; a full queue refuses it and sets gap-pending. -/
def Obligations.ReportsAreProcessed : Prop :=
  ∀ s o h b level p u e, OneBurst s o h b level → UnitIdLaw s → acceptedProfile s b.unitId = some p →
    Processed s h p level b u e → ∃ t, exec .slotClose s = .next t ∧
      ((∀ w, ¬ Sound b w) → RecordHanded s t u e (recordOf s u h level b
          ⟨some b.supply, b.ret, b.setpoint, b.power, b.alarm⟩ false false true) ∧
        t.unit u = { e with gapPending := (t.unit u).gapPending } ∧ AlarmsHanded s t []) ∧
      ∀ w prof r f, Sound b w → prof = s.reg.profiles.get e.profile → f = t.unit u →
        r = { supply := if b.supply = -2048 then e.readings.bind (·.supply) else some (clampInt (-500) 500 b.supply)
              ret := clampInt (-500) 500 b.ret
              setpoint := clampInt (-500) 500 b.setpoint
              power := w
              alarm := b.alarm : Readings } →
        f.readings = some r ∧ f.sensorAbsent = decide (b.supply = -2048) ∧
        (f.clamped = true ↔ b.supply ≠ -2048 ∧ (b.supply < -500 ∨ 500 < b.supply) ∨
          (b.ret < -500 ∨ 500 < b.ret) ∨ (b.setpoint < -500 ∨ 500 < b.setpoint)) ∧
        f.live.getLsbD 3 = decide (w = .off) ∧ f.live.getLsbD 0 = decide (b.alarm ≠ 0#8) ∧
        f.live.getLsbD 2 = e.live.getLsbD 2 ∧
        (b.supply = -2048 → f.run = e.run ∧ f.live.getLsbD 1 = e.live.getLsbD 1) ∧
        (∀ v, b.supply ≠ -2048 → r.supply = some v →
          (prof.excursion < (v - r.setpoint).natAbs → f.run = min 2 (e.run + 1) ∧
            f.live.getLsbD 1 = (decide (f.run = 2) || e.live.getLsbD 1)) ∧
          ((v - r.setpoint).natAbs ≤ prof.excursion → f.run = 0 ∧ f.live.getLsbD 1 = false)) ∧
        f.latched = e.latched ||| (f.live &&& ~~~e.live) ∧
        AlarmsHanded s t ((newAlarms e f).map fun k => ⟨b.unitId, u, k, s.fs.now, some r⟩) ∧
        ((∀ d, e.snapshot = some d → (∃ v q, r.supply = some v ∧ d.supply = some q ∧ prof.deadband ≤ (v - q).natAbs) ∨
            r.supply.isSome ≠ d.supply.isSome ∨ r.setpoint ≠ d.setpoint ∨ r.power ≠ d.power ∨ r.alarm ≠ d.alarm ∨
            prof.forward ≤ (s.fs.now.mf - d.mf).toNat) →
          RecordHanded s t u e (recordOf s u h level b
            ⟨r.supply, r.ret, r.setpoint, b.power, r.alarm⟩ f.clamped f.sensorAbsent false) ∧
          f.snapshot = if s.rep.reports.length < 256 then
            some ⟨r.supply, r.setpoint, r.power, r.alarm, s.fs.now.mf⟩ else e.snapshot) ∧
        ((∃ d, e.snapshot = some d ∧
            (∀ v q, r.supply = some v → d.supply = some q → (v - q).natAbs < prof.deadband) ∧
            r.supply.isSome = d.supply.isSome ∧ r.setpoint = d.setpoint ∧ r.power = d.power ∧ r.alarm = d.alarm ∧
            (s.fs.now.mf - d.mf).toNat < prof.forward) →
          t.rep.reports = s.rep.reports ∧ t.rep.overflow = s.rep.overflow ∧ f.gapPending = e.gapPending ∧
            f.snapshot = e.snapshot ∧ flagSet t .reports = flagSet s .reports)

/-! ## The control port's line -/

/-- Decode and encode agree (R163, R173, R174): the body that carries a well-formed host command under its kind spells
that command, with every field at every value. -/
def Obligations.DecodeOfEncode : Prop :=
  ∀ c : HostCmd, c.wf = true → decodeCommand c.kind c.body = some c

/-- A host command given with its fields is the reception of its frame (R159, R161 to R163, log entry 16). -/
def Obligations.HostCommandIsItsFrame : Prop :=
  ∀ c : HostCmd, ∀ tag s, c.wf = true → s.cp.rx = [] →
    exec (hostInstr tag c) s = exec (.frameReceived c.kind tag c.body (c.frame tag).check) s

/-- The bytes of a frame, received one by one while hunting, are the reception of the frame (R159, section 9.1): sync,
length, kind, tag, body and the two check bytes, whatever the check. -/
def Obligations.FrameBytesAreAFrame : Prop :=
  ∀ (f : Frame) (check : Word16) s, f.body.length + 2 ≤ 1020 → s.resetn = true → s.cp.rx = [] →
    receiveAll ([0xC3#8] ++ be16 (BitVec.ofNat 16 (f.body.length + 2)) ++ [f.kind, f.tag] ++ f.body ++ be16 check) s =
      exec (.frameReceived f.kind f.tag f.body check) s

/-- The receiver's failures (R159, R160): while hunting, a byte other than 0xC3 and a gap pass without any count, and
0xC3 starts a frame; a bad length at the second length byte, a bad check, a byte without its stop bit and a gap in a
frame discard the frame, raise the frame-error count by one, holding at 65535, and raise LINK, with its EVENT notice
where LINK was clear and enabled (`Raised`), dropped and counted where the outbound queue is full; nothing else
changes. After a bad length hunting resumes at the first length byte, so that a 0xC3 among the two starts a frame,
otherwise at the next byte. A good frame that completes while both places of the inbound buffer are occupied is lost,
the overrun count rises by one and LINK is raised; one that completes behind a frame that has to wait for the outbound
queue takes the other place (R161, R162). -/
def Obligations.FrameErrorsAndOverrunsAreCounted : Prop :=
  (∀ s, s.resetn = true →
    (s.cp.rx = [] → exec .frameGap s = .next s ∧ (∀ b, exec (.controlPortByteReceived b false) s = .next s) ∧
      (∀ b, b ≠ 0xC3#8 → exec (.controlPortByteReceived b true) s = .next s) ∧
      exec (.controlPortByteReceived 0xC3#8 true) s = .next { s with cp := { s.cp with rx := [0xC3#8] } }) ∧
    ∀ i rx, (i = .frameGap ∧ s.cp.rx ≠ [] ∧ rx = [] ∨ (∃ b, i = .controlPortByteReceived b false) ∧ s.cp.rx ≠ [] ∧ rx = [] ∨
        (∃ kind tag body check, i = .frameReceived kind tag body check ∧ check ≠ Frame.check ⟨kind, tag, body⟩ ∧ rx = []) ∨
        ∃ c a b : Byte, i = .controlPortByteReceived b true ∧ s.cp.rx = [c, a] ∧
          (256 * a.toNat + b.toNat < 2 ∨ 1020 < 256 * a.toNat + b.toNat) ∧
          rx = if a = 0xC3#8 then [a, b] else if b = 0xC3#8 then [b] else []) →
      ∃ t, exec i s = .next t ∧ LinkRaised s t ∧
        t = { s with cp := { s.cp with
          rx := rx, frameErrors := min (s.cp.frameErrors + 1) 65535, flags := t.cp.flags, notices := t.cp.notices,
          noticeDrops := t.cp.noticeDrops } }) ∧
  ∀ kind tag body s, s.resetn = true →
    (2 ≤ s.cp.inbound.length → ∃ t, exec (.frameReceived kind tag body (Frame.check ⟨kind, tag, body⟩)) s = .next t ∧
      LinkRaised s t ∧ t = { s with cp := { s.cp with
        rx := [], overruns := min (s.cp.overruns + 1) 65535, flags := t.cp.flags, notices := t.cp.notices,
        noticeDrops := t.cp.noticeDrops } }) ∧
    ∀ f, s.cp.inbound = [f] → f.kind ≠ 0x34#8 → 64 ≤ (outbound s).length →
      exec (.frameReceived kind tag body (Frame.check ⟨kind, tag, body⟩)) s =
        .next { s with cp := { s.cp with rx := [], inbound := [f, ⟨kind, tag, body⟩] } }

/-- UNKNOWN (R163): a frame whose kind is no command kind, or whose body has no length its kind allows, changes nothing
and is answered UNKNOWN; a CRANE APPEND of a wrong length is dropped, the malformed-posted count rises by one, holding
at 65535, and LINK is raised. -/
def Obligations.UnknownCommandsAreAnswered : Prop :=
  ∀ tag kind body s, s.resetn = true → s.cp.inbound = [] → kindLengthOk kind body.length = false →
    (kind ≠ 0x34#8 → hasRoom s = true → Answers (.unknownCommand tag kind body) kind tag .unknown id s) ∧
    (kind = 0x34#8 → ∃ t, exec (.unknownCommand tag kind body) s = .next t ∧ SameButPort s t ∧
      t.cp.replies = s.cp.replies ∧ t.cp.inbound = [] ∧ t.cp.malformed = min (s.cp.malformed + 1) 65535 ∧
      flagSet t .link = true ∧ LinkRaised s t)

/-- The transmitter (R165, R96), with no frame waiting: the head of the outbound queue, the oldest reply before any
notice, leaves it and begins transmission, also where the transmitter was idle, which begins at this command alone (log
entry 13, the model's choice); a CRANE ALARM notice that leaves lowers its link's pending count; an empty queue leaves
the transmitter idle. With one frame waiting for room in a full queue, the place that frees lets it be taken in the same
event (R162); a frame of no command is then answered UNKNOWN. -/
def Obligations.NextMessageIsSent : Prop :=
  ∀ s, s.resetn = true →
    (s.cp.inbound = [] → ∀ k tag r rest, s.cp.replies = .reply k tag r :: rest →
      exec .messageTransmitted s =
        .next { s with cp := { s.cp with sending := some (.reply k tag r), replies := rest } }) ∧
    (s.cp.inbound = [] → s.cp.replies = [] → ∀ m rest, s.cp.notices = m :: rest →
      (∀ x term c p g t, m ≠ .craneAlarm x term c p g t) →
      exec .messageTransmitted s = .next { s with cp := { s.cp with sending := some m, notices := rest } }) ∧
    (s.cp.inbound = [] → s.cp.replies = [] → ∀ x term c p g t rest, s.cp.notices = .craneAlarm x term c p g t :: rest →
      exec .messageTransmitted s = .next { s with
        cp := { s.cp with sending := some (.craneAlarm x term c p g t), notices := rest }
        cle := { s.cle with links := put s.cle.links x { s.link x with
          pendingAlarms := (s.link x).pendingAlarms - 1 } } }) ∧
    (s.cp.inbound = [] → s.cp.replies = [] → s.cp.notices = [] →
      exec .messageTransmitted s = .next { s with cp := { s.cp with sending := none } }) ∧
    (∀ f k tag r rest, s.cp.inbound = [f] → (outbound s).length = 64 → s.cp.replies = .reply k tag r :: rest →
      exec .messageTransmitted s = .next (takeFrame f { s with cp := { s.cp with
        sending := some (.reply k tag r), inbound := [], replies := rest } })) ∧
    (∀ f x term c p g t rest, s.cp.inbound = [f] → (outbound s).length = 64 → s.cp.replies = [] →
      s.cp.notices = .craneAlarm x term c p g t :: rest →
      exec .messageTransmitted s = .next (takeFrame f { s with
        cp := { s.cp with sending := some (.craneAlarm x term c p g t), inbound := [], notices := rest }
        cle := { s.cle with links := put s.cle.links x { s.link x with
          pendingAlarms := (s.link x).pendingAlarms - 1 } } })) ∧
    (∀ f m rest, s.cp.inbound = [f] → (outbound s).length = 64 → s.cp.replies = [] → s.cp.notices = m :: rest →
      (∀ x term c p g t, m ≠ .craneAlarm x term c p g t) →
      exec .messageTransmitted s = .next (takeFrame f { s with cp := { s.cp with
        sending := some m, inbound := [], notices := rest } })) ∧
    ∀ f k tag r rest, s.cp.inbound = [f] → (outbound s).length = 64 → s.cp.replies = .reply k tag r :: rest →
      kindLengthOk f.kind f.body.length = false → f.kind ≠ 0x34#8 →
      exec .messageTransmitted s = .next { s with cp := { s.cp with
        sending := some (.reply k tag r), inbound := [], replies := rest ++ [.reply f.kind f.tag .unknown] } }

/-! ## Commands of the Control Port and queries -/

/-- POLL EVENTS (R167) reads every flag, detail set, the PLAN detail result when PLAN was set and the four counters, and
clears flags and details; NOTIFY SET (R168) enables exactly the flags named, codes outside the ten ignored. -/
def Obligations.EventFlagsAreReadAndEnabled : Prop :=
  (∀ tag s, Ready s → Answers (.pollEvents tag) 0x01#8 tag
    (.ok (.pollEvents s.cp.flags s.cp.craneSet s.cp.listLowSet s.cp.headSet
      (if flagSet s .plan = true then s.cp.planDetail else .none)
      s.cp.frameErrors s.cp.overruns s.cp.malformed s.cp.noticeDrops))
    (fun u => { u with cp := { u.cp with flags := 0#10, craneSet := 0#24, listLowSet := 0#24, headSet := 0#12,
                                         planDetail := .none } }) s) ∧
  ∀ tag (flags : Word16) s, Ready s → Answers (.notifySet tag flags) 0x02#8 tag
    (.ok (.notifySet (flags.setWidth 10))) (fun u => { u with cp := { u.cp with enables := flags.setWidth 10 } }) s

/-- The queries without object change no state but the reply: IDENTIFY (R170), PLAN QUERY (R10), MAP QUERY (R22),
REGISTRY QUERY (R138), REPORT QUERY (R156). The queries of one object: CRANE QUERY (R75, R58, R98) and UNIT QUERY
(R135) change no state; CRANE QUERY gives the link record with the progress of a test, the depth, tags and clamped
flags of its list, its reservations, whether it is unplaced, quay stop and the handover record; UNIT QUERY gives a
FREE entry as FREE alone, any other whole with its age, its gone age where it is GONE and its place in the poll queue
where it is POLLING. -/
def Obligations.QueriesChangeNoState : Prop :=
  (∀ tag s, Ready s →
    Answers (.identify tag) 0x03#8 tag (.ok .identify) id s ∧
    Answers (.planQuery tag) 0x12#8 tag
      (.ok (.planQuery s.fs.active s.fs.staged s.fs.ready s.fs.now.mf s.fs.now.frame s.fs.last)) id s ∧
    Answers (.mapQuery tag) 0x13#8 tag (.ok (.mapQuery s.fs.now.mf s.fs.now.frame s.fs.map)) id s ∧
    Answers (.registryQuery tag) 0x45#8 tag (.ok (.registryQuery
      (countUnits s fun e => e.state == .free) (countUnits s fun e => e.state == .listed)
      (countUnits s fun e => e.state == .polling) (countUnits s fun e => e.state == .silent)
      (countUnits s fun e => e.state == .gone) s.reg.pollQueue.length
      (countUnits s fun e => e.state != .free && e.serving.isNone)
      s.reg.foreign s.reg.stray s.reg.refusedJoins s.reg.outerFails)) id s ∧
    Answers (.reportQuery tag) 0x49#8 tag (.ok (.reportQuery s.rep.acks.length s.rep.reports.length
      s.rep.alarms.length s.rep.threshold s.rep.exponent s.rep.lastOffered s.rep.lastGarbled s.rep.ackLoss
      s.rep.overflow s.rep.alarmOverflow (countUnits s fun e => e.state != .free && e.gapPending))) id s) ∧
  ((∀ tag link s, Ready s →
    (24 ≤ link.toNat → Answers (.craneQuery tag link) 0x33#8 tag .range id s) ∧
    ∀ x : LinkNo, link.toNat = x.1 → Answers (.craneQuery tag link) 0x33#8 tag
      (.ok (.craneQuery { s.link x with
          list := [], test := (s.link x).test.map fun p => { p with register := 0#15 } } (s.link x).list.length
        ((s.link x).list.map fun e => (e.hostTag, e.clamped)) (s.resv x).primary (s.resv x).target (unplaced s x)
        (s.cle.contributions.getLsbD x.1) (contributionCount s) s.cle.qstop
        ((s.record x).map (handoverReport s x)))) id s) ∧
  ∀ tag entry s, Ready s →
    (∀ n : Word32, entry = .index n → 1024 ≤ n.toNat → Answers (.unitQuery tag entry) 0x42#8 tag .range id s) ∧
    (∀ uid, entry = .unitId uid → (∀ u, (s.unit u).state = .free ∨ (s.unit u).unitId ≠ uid) →
      Answers (.unitQuery tag entry) 0x42#8 tag (.state .notListed) id s) ∧
    ∀ u, namedUnit s entry = .ok u →
      ((s.unit u).state = .free → Answers (.unitQuery tag entry) 0x42#8 tag (.ok .unitFree) id s) ∧
      ((s.unit u).state ≠ .free → ∃ goneAge place,
        Answers (.unitQuery tag entry) 0x42#8 tag
          (.ok (.unitQuery u (s.unit u) (s.fs.now.mf - (s.unit u).lastHeard).toNat goneAge place)) id s ∧
        ((s.unit u).state ≠ .polling → place = none) ∧
        ((s.unit u).state = .polling → place = some (s.reg.pollQueue.idxOf u + 1)) ∧
        ((s.unit u).state ≠ .gone → goneAge = none) ∧
        ((s.unit u).state = .gone → goneAge = (s.unit u).goneSince.map fun g => (s.fs.now.mf - g).toNat)))

/-- QUIET RESET (R171, R14, R36, R43, R77, R139, R157), from a state that keeps the laws of R62, R81 and R107: the
reply is the only message but for the EVENT notices of RESTARTED and QUAY-STOP; every link is closed, every
reservation and handover record gone, their CRANE and LISTEN cells whose slots have not started QUIET and the rest of
the map as it was (R21, R23), the pool whole, draining heads ON, the staged plan a copy of the active plan, the three
report queues empty; air time, map time, the Registry, the settings and the Control Port's counters, receiver and
enables stand. -/
def Obligations.QuietResetResets : Prop :=
  ∀ tag s, Ready s → HeldLaw s → PoolLaw s → StopLaw s → ∃ t, exec (.quietReset tag) s = .next t ∧
    t.cp.replies = [.reply 0x04#8 tag (.ok .empty)] ∧
    (∀ m ∈ t.cp.notices, ∃ f object flags, (f = .restarted ∨ f = .quayStop) ∧ m = .event f object flags s.fs.now) ∧
    (∀ f, flagSet t f = decide (f = .restarted ∨ f = .quayStop ∧ s.cle.qstop = true)) ∧
    t.cp.craneSet = 0#24 ∧ t.cp.listLowSet = 0#24 ∧ t.cp.headSet = 0#12 ∧ t.cp.planDetail = .none ∧
    t.cp.rx = s.cp.rx ∧ t.cp.inbound = [] ∧ t.cp.sending = s.cp.sending ∧ t.cp.enables = s.cp.enables ∧
    t.cp.frameErrors = s.cp.frameErrors ∧ t.cp.overruns = s.cp.overruns ∧ t.cp.malformed = s.cp.malformed ∧
    t.cp.noticeDrops = s.cp.noticeDrops ∧
    t.fs.now = s.fs.now ∧ t.fs.slotStarted = s.fs.slotStarted ∧ t.fs.active = s.fs.active ∧
    t.fs.staged = s.fs.active ∧ t.fs.ready = false ∧ t.fs.last = s.fs.last ∧ t.fs.beacon = s.fs.beacon ∧
    table t = [] ∧
    (∀ h sl, ((∃ x, Released s x h sl) → t.cell h sl = .quiet) ∧
      ((∀ x, ¬ Released s x h sl) → t.cell h sl = s.cell h sl)) ∧
    (∀ h, t.head h = if (s.head h).state = .draining then
      { s.head h with state := .on, drainTimer := 0, drainOutcome := .cancelled } else s.head h) ∧
    (∀ x, (t.link x).mode = .closed ∧ (t.link x).list = [] ∧ (t.link x).pendingAlarms = 0 ∧ t.record x = none ∧
      (t.link x).postedErrors = (s.link x).postedErrors) ∧
    t.cle.poolFree = 512 ∧ t.cle.hostHold = false ∧ t.cle.contributions = 0#24 ∧ t.cle.qstop = false ∧
    t.cov.settings = s.cov.settings ∧ t.reg = s.reg ∧ t.rep = { s.rep with acks := [], reports := [], alarms := [] } ∧
    t.holdin = s.holdin

/-! ## Commands of the Frame Scheduler and the Coverage Unit -/

/-- PLAN STAGE (R8): an edit that names a head or slot out of range refuses the whole command; otherwise the edits apply
in order to the staged plan, or with restart to a copy of the active plan, which clears plan-ready. In an edit a group
code above 2 is taken as 2, a maximum polls above 8 as 8, a poll order other than OLDEST's as LOWEST-INDEX, bit 0 of a
crane-allowed set is ignored, and a code without meaning changes nothing (R174). COVER SET (R45, R107): the settings
carried are clamped to their ranges and reported, the others stand; a change of stop-on-lost leaves quay stop as the
links then show it. -/
def Obligations.PlanStageAndCoverSetAreAnswered : Prop :=
  ((∀ tag restart edits s, Ready s → edits.length ≤ 48 →
    ((∃ e ∈ edits, (e.code = 1#8 ∨ e.code = 3#8) ∧ 12 ≤ e.object.toNat ∨
        e.code = 2#8 ∧ (e.object = 0#8 ∨ 24 ≤ e.object.toNat)) →
      Answers (.planStage tag restart edits) 0x10#8 tag .range id s) ∧
    ((∀ e ∈ edits, ((e.code = 1#8 ∨ e.code = 3#8) → e.object.toNat < 12) ∧
        (e.code = 2#8 → e.object ≠ 0#8 ∧ e.object.toNat < 24)) →
      ∀ p, p = edits.foldl applyEdit (if restart = true then s.fs.active else s.fs.staged) →
      Answers (.planStage tag restart edits) 0x10#8 tag
        (.ok (.planStage p (if restart = true then false else s.fs.ready)))
        (fun u => { u with fs := { u.fs with staged := p, ready := if restart = true then false else s.fs.ready } }) s)) ∧
  ∀ p : Plan, ∀ e : PlanEdit,
    (∀ h : HeadNo, e.code = 1#8 → e.object.toNat = h.1 →
      ((applyEdit p e).headGroup.get h).1 = min 2 (e.value.toNat % 256) ∧
      applyEdit p e = { p with headGroup := put p.headGroup h ((applyEdit p e).headGroup.get h) }) ∧
    (∀ sl : SlotNo, e.code = 2#8 → e.object.toNat = sl.1 →
      ((applyEdit p e).slotGroup.get sl).1 = min 2 (e.value.toNat % 256) ∧
      applyEdit p e = { p with slotGroup := put p.slotGroup sl ((applyEdit p e).slotGroup.get sl) }) ∧
    (∀ h : HeadNo, e.code = 3#8 → e.object.toNat = h.1 →
      applyEdit p e = { p with allowed := put p.allowed h (e.value &&& 0xFFFFFE#24) }) ∧
    (e.code = 4#8 → (applyEdit p e).maxPolls.1 = min 8 (e.value.toNat % 256) ∧
      applyEdit p e = { p with maxPolls := (applyEdit p e).maxPolls }) ∧
    (e.code = 5#8 → applyEdit p e = { p with
      order := if e.value.toNat % 256 = 0 then .oldest else .lowestIndex }) ∧
    (e.code = 0#8 ∨ 5 < e.code.toNat → applyEdit p e = p)) ∧
  (∀ tag k hy t' w st s, Ready s → ∃ t, exec (.coverSet tag k hy t' w st) s = .next t ∧
    t.cov.settings =
      { filter := (k.map fun v => max 1 (min 6 v.toNat)).getD s.cov.settings.filter
        hysteresis := (hy.map fun v => min 31 v.toNat).getD s.cov.settings.hysteresis
        trigger := (t'.map fun v => max 1 (min 64 v.toNat)).getD s.cov.settings.trigger
        weight := (w.map fun v => min 15 v.toNat).getD s.cov.settings.weight
        stopOnLost := (st.map fun v => decide (v ≠ 0#8)).getD s.cov.settings.stopOnLost } ∧
    .reply 0x28#8 tag (.ok (.coverSet t.cov.settings)) ∈ t.cp.replies ∧
    (StopLaw s → StopLaw t) ∧
    (t.cov.settings.stopOnLost = s.cov.settings.stopOnLost → t.cle = s.cle) ∧
    t = { s with cov := { s.cov with settings := t.cov.settings },
                 cle := { s.cle with contributions := t.cle.contributions, qstop := t.cle.qstop }, cp := t.cp })

/-- PLAN COMMIT (R9) sets plan-ready and names the next multiframe boundary. -/
def Obligations.PlanCommitSetsPlanReady : Prop :=
  ∀ tag s, Ready s → Answers (.planCommit tag) 0x11#8 tag (.ok (.planCommit (s.fs.now.mf + 1#16)))
    (fun u => { u with fs := { u.fs with ready := true } }) s

/-! ## Crane commands -/

/-- CRANE OPEN (R66, R69, R70): refused in the order RANGE, LINK-OPEN, TERMINAL-IN-USE, HEAD-STATE, NOSLOT; otherwise
the link opens in STANDBY with the first admissible place of the search order as its PRIMARY, a fresh record and a
window centred on its head; the reply names the first frame after the present one in which the place is due, and the
slot in which the command was taken (log entry 39); other links, the map, the pool, the Registry and the reports
stand. -/
def Obligations.CraneOpenIsAnswered : Prop :=
  ∀ tag link terminal head period slot interlock lowMark s, Ready s →
    let i := Instr.craneOpen tag link terminal head period slot interlock lowMark
    (24 ≤ link.toNat ∨ 12 ≤ head.toNat → Answers i 0x30#8 tag .range id s) ∧
    ∀ (x : LinkNo) (h : HeadNo), link.toNat = x.1 → head.toNat = h.1 →
      ((s.link x).mode ≠ .closed → Answers i 0x30#8 tag (.state .linkOpen) id s) ∧
      ((s.link x).mode = .closed → (∃ y, y ≠ x ∧ (s.link y).mode ≠ .closed ∧ (s.link y).terminal = terminal) →
        Answers i 0x30#8 tag (.state .terminalInUse) id s) ∧
      ((s.link x).mode = .closed → (∀ y, y ≠ x → (s.link y).mode ≠ .closed → (s.link y).terminal ≠ terminal) →
        ((s.head h).state ≠ .on → Answers i 0x30#8 tag (.state .headState) id s) ∧
        ((s.head h).state = .on → (∀ p : Place, p.head = h → p.period = readPeriod period →
            p.phase < p.period.frames → admissible s x p = false) →
          Answers i 0x30#8 tag .noSlot id s) ∧
        ∀ p, (s.head h).state = .on → FirstAdmissible s x h (readPeriod period) (readPreferred slot) p →
          ∃ t, exec i s = .next t ∧
            (∃ n mf f, .reply 0x30#8 tag (.ok (.craneOpen p (min 63 lowMark.toNat) mf f s.fs.now)) ∈ t.cp.replies ∧
              1 ≤ n ∧ n ≤ p.period.frames ∧ f.1 = (s.fs.now.frame.1 + n) % 16 ∧ due p f = true ∧
              (∀ k g, 1 ≤ k → k < n → g.1 = (s.fs.now.frame.1 + k) % 16 → due p g = false) ∧
              mf = if s.fs.now.frame.1 + n < 16 then s.fs.now.mf else s.fs.now.mf + 1#16) ∧
            t.link x = { Link.reset with
              terminal := terminal, mode := .standby, openedAt := some s.fs.now, period := p.period, phase := p.phase,
              staged := interlock, snapshot := interlock, lowMark := min 63 lowMark.toNat,
              postedErrors := (s.link x).postedErrors, pendingAlarms := (s.link x).pendingAlarms } ∧
            t.resv x = ⟨some p, none⟩ ∧ t.record x = some (Handover.atOpen h) ∧ OthersKept x s t ∧
            t.fs.map = s.fs.map ∧ t.cle.poolFree = s.cle.poolFree ∧ t.hp = s.hp ∧ t.reg = s.reg ∧ t.rep = s.rep)

/-- CRANE CLOSE (R72): RANGE for no link; a CLOSED link gives OK with 0 entries and no change; an open link is closed,
a test in progress stored as aborted, its record and reservations gone, its list returned to the pool and its
contribution to quay stop ended; its CRANE cells whose slots have not started, and their LISTEN cells, turn QUIET and
the rest of the map stands (R21); other links' records and reservations stand. The reply names the slot in which the
command was taken (log entry 39). -/
def Obligations.CraneCloseIsAnswered : Prop :=
  ∀ tag link s, Ready s →
    (24 ≤ link.toNat → Answers (.craneClose tag link) 0x31#8 tag .range id s) ∧
    ∀ x : LinkNo, link.toNat = x.1 →
      ((s.link x).mode = .closed → Answers (.craneClose tag link) 0x31#8 tag (.ok (.craneClose 0 none s.fs.now)) id s) ∧
      ((s.link x).mode ≠ .closed → ∃ t aborted, exec (.craneClose tag link) s = .next t ∧
        (∀ p, (s.link x).mode = .test → (s.link x).test = some p → aborted = some ⟨p.done, p.bitErrors, true⟩) ∧
        ((s.link x).mode ≠ .test → aborted = none) ∧
        .reply 0x31#8 tag (.ok (.craneClose (s.link x).list.length aborted s.fs.now)) ∈ t.cp.replies ∧
        t.link x = { s.link x with
          mode := .closed, list := [], held := none, latest := none, farEnd := false, test := none,
          testResult := if aborted = none then (s.link x).testResult else aborted } ∧
        t.resv x = ⟨none, none⟩ ∧ t.record x = none ∧
        (∀ h sl, (Released s x h sl → t.cell h sl = .quiet) ∧ (¬ Released s x h sl → t.cell h sl = s.cell h sl)) ∧
        t.cle.poolFree = s.cle.poolFree + (s.link x).list.length ∧ t.cle.contributions.getLsbD x.1 = false ∧
        (∀ y, y ≠ x → t.link y = s.link y ∧ t.resv y = s.resv y) ∧ t.rep = s.rep)

/-- CRANE MODE (R74): STATE for a CLOSED link, a link in TEST and a request for SERVICE of a STANDBY link whose health
is neither GOOD nor WARNED; otherwise the mode becomes the one requested, mode byte 2 SERVICE and any other STANDBY.
CRANE INTERLOCK (R92): RANGE for no link, STATE for a CLOSED one; otherwise the word replaces the staged interlock and
the snapshot stands. CRANE TEST (R98): RANGE for no link; accepted in STANDBY with health GOOD or WARNED and no quay
hold in force, which starts a test of 1 to 4095 exchanges with the pattern register at all ones; else STATE. -/
def Obligations.CraneModeInterlockAndTestAreAnswered : Prop :=
  (∀ tag link mode s, Ready s →
    (24 ≤ link.toNat → Answers (.craneMode tag link mode) 0x32#8 tag .range id s) ∧
    ∀ x : LinkNo, link.toNat = x.1 →
      ((s.link x).mode = .closed ∨ (s.link x).mode = .test ∨
          (s.link x).mode = .standby ∧ mode = 2#8 ∧ (s.link x).health ≠ .good ∧ (s.link x).health ≠ .warned →
        Answers (.craneMode tag link mode) 0x32#8 tag (.state .noneGiven) id s) ∧
      ((s.link x).mode = .standby ∨ (s.link x).mode = .service → mode ≠ 2#8 →
        Answers (.craneMode tag link mode) 0x32#8 tag (.ok (.craneMode .standby (s.link x).health))
          (fun u => u.setLink x { s.link x with mode := .standby }) s) ∧
      ((s.link x).mode = .service ∨
          (s.link x).mode = .standby ∧ ((s.link x).health = .good ∨ (s.link x).health = .warned) → mode = 2#8 →
        Answers (.craneMode tag link mode) 0x32#8 tag (.ok (.craneMode .service (s.link x).health))
          (fun u => u.setLink x { s.link x with mode := .service }) s)) ∧
  ((∀ tag link word s, Ready s →
    (24 ≤ link.toNat → Answers (.craneInterlock tag link word) 0x37#8 tag .range id s) ∧
    ∀ x : LinkNo, link.toNat = x.1 →
      ((s.link x).mode = .closed → Answers (.craneInterlock tag link word) 0x37#8 tag (.state .noneGiven) id s) ∧
      ((s.link x).mode ≠ .closed → Answers (.craneInterlock tag link word) 0x37#8 tag
        (.ok (.craneInterlock word (s.link x).snapshot))
        (fun u => { u with cle := { u.cle with links := put s.cle.links x { s.link x with staged := word } } }) s)) ∧
  ∀ tag link (exchanges : Word16) s, Ready s →
    (24 ≤ link.toNat → Answers (.craneTest tag link exchanges) 0x38#8 tag .range id s) ∧
    ∀ x : LinkNo, link.toNat = x.1 →
      ((s.link x).mode ≠ .standby ∨ (s.link x).health ≠ .good ∧ (s.link x).health ≠ .warned ∨
          holdInForce s = true →
        Answers (.craneTest tag link exchanges) 0x38#8 tag (.state .noneGiven) id s) ∧
      ((s.link x).mode = .standby → (s.link x).health = .good ∨ (s.link x).health = .warned →
        holdInForce s = false → Answers (.craneTest tag link exchanges) 0x38#8 tag
          (.ok (.craneTest (max 1 (min 4095 exchanges.toNat))))
          (fun u => { u with cle := { u.cle with links := put s.cle.links x { s.link x with
            mode := .test, test := some ⟨max 1 (min 4095 exchanges.toNat), 0, 0, 0x7FFF#15⟩ } } }) s))

/-- CRANE APPEND (R82), posted: an open link's list takes the entries whole, from the pool, when list and pool have
room; otherwise nothing is appended, the link's posted-error count rises and LINK is raised; a link number above 23
raises LINK alone. There is never a reply. -/
def Obligations.CraneAppendIsPosted : Prop :=
  ∀ tag link entries s, s.resetn = true → s.cp.inbound = [] → 1 ≤ entries.length → entries.length ≤ 16 →
    (24 ≤ link.toNat → ∃ t, exec (.craneAppend tag link entries) s = .next t ∧ SameButPort s t ∧
      t.cp.replies = s.cp.replies ∧ flagSet t .link = true ∧ LinkRaised s t) ∧
    ∀ x : LinkNo, link.toNat = x.1 →
      ((s.link x).mode ≠ .closed → (s.link x).list.length + entries.length ≤ 64 →
        entries.length ≤ s.cle.poolFree →
        exec (.craneAppend tag link entries) s = .next { s with cle := { s.cle with
          links := put s.cle.links x { s.link x with list := (s.link x).list ++ entries.map readEntry }
          poolFree := s.cle.poolFree - entries.length } }) ∧
      ((s.link x).mode = .closed ∨ 64 < (s.link x).list.length + entries.length ∨
          s.cle.poolFree < entries.length →
        ∃ t, exec (.craneAppend tag link entries) s = .next t ∧ t.cp.replies = s.cp.replies ∧
          flagSet t .link = true ∧ LinkRaised s t ∧ t = { s with cle := { s.cle with links := put s.cle.links x { s.link x with
            postedErrors := min ((s.link x).postedErrors + 1) 65535 } }, cp := t.cp })

/-- CRANE SPLICE (R83): RANGE for no link, STATE for a CLOSED one, FULL when list or pool has no room; otherwise the
entries stand at the head of the list, in their order, drawn from the pool. CRANE FLUSH (R84): RANGE for no link, STATE
for a CLOSED one; otherwise every entry of the list returns to the pool, the held command is kept and no flag is
raised. -/
def Obligations.CraneSpliceAndFlushAreAnswered : Prop :=
  (∀ tag link entries s, Ready s → 1 ≤ entries.length → entries.length ≤ 16 →
    (24 ≤ link.toNat → Answers (.craneSplice tag link entries) 0x35#8 tag .range id s) ∧
    ∀ x : LinkNo, link.toNat = x.1 →
      ((s.link x).mode = .closed → Answers (.craneSplice tag link entries) 0x35#8 tag (.state .noneGiven) id s) ∧
      ((s.link x).mode ≠ .closed → 64 < (s.link x).list.length + entries.length ∨ s.cle.poolFree < entries.length →
        Answers (.craneSplice tag link entries) 0x35#8 tag .full id s) ∧
      ((s.link x).mode ≠ .closed → (s.link x).list.length + entries.length ≤ 64 →
        entries.length ≤ s.cle.poolFree →
        Answers (.craneSplice tag link entries) 0x35#8 tag
          (.ok (.craneSplice (entries.length + (s.link x).list.length) (s.cle.poolFree - entries.length)))
          (fun u => { u with cle := { u.cle with
            links := put s.cle.links x { s.link x with list := entries.map readEntry ++ (s.link x).list }
            poolFree := s.cle.poolFree - entries.length } }) s)) ∧
  ∀ tag link s, Ready s →
    (24 ≤ link.toNat → Answers (.craneFlush tag link) 0x36#8 tag .range id s) ∧
    ∀ x : LinkNo, link.toNat = x.1 →
      ((s.link x).mode = .closed → Answers (.craneFlush tag link) 0x36#8 tag (.state .noneGiven) id s) ∧
      ((s.link x).mode ≠ .closed → Answers (.craneFlush tag link) 0x36#8 tag
        (.ok (.craneFlush (s.link x).list.length (s.cle.poolFree + (s.link x).list.length)))
        (fun u => { u with cle := { u.cle with links := put s.cle.links x { s.link x with list := [] }
                                               poolFree := s.cle.poolFree + (s.link x).list.length } }) s)

/-- CRANE RECOVER (R66, R105): refused in the order RANGE, LINK-CLOSED, HEALTH, and for an unplaced link HEAD-REQUIRED,
HEAD-STATE, NOSLOT; otherwise a LOST link becomes RECOVERING with recovery count 0 and CRANE is raised, an unplaced one
with the first admissible place of the search order from slot 1 as its PRIMARY and its window, all qualities invalid,
centred there in SETTLED; the reply names the slot in which the command was taken (log entry 39); other links stand. -/
def Obligations.CraneRecoverIsAnswered : Prop :=
  ∀ tag link head s, Ready s →
    let i := Instr.craneRecover tag link head
    (24 ≤ link.toNat → Answers i 0x39#8 tag .range id s) ∧
    ∀ x : LinkNo, link.toNat = x.1 →
      (head ≠ 255#8 → 12 ≤ head.toNat → Answers i 0x39#8 tag .range id s) ∧
      (head = 255#8 ∨ head.toNat < 12 →
        ((s.link x).mode = .closed → Answers i 0x39#8 tag (.state .linkClosed) id s) ∧
        ((s.link x).mode ≠ .closed → (s.link x).health ≠ .lost → Answers i 0x39#8 tag (.state .health) id s) ∧
        ((s.link x).mode ≠ .closed → (s.link x).health = .lost → unplaced s x = false →
          ∃ t, exec i s = .next t ∧ .reply 0x39#8 tag (.ok (.craneRecover .recovering (s.resv x).primary s.fs.now)) ∈ t.cp.replies ∧
            t.link x = { s.link x with health := .recovering, recovery := 0 } ∧ t.resv x = s.resv x ∧
            t.record x = s.record x ∧ CraneSeen t x ∧ OthersKept x s t) ∧
        ((s.link x).mode ≠ .closed → (s.link x).health = .lost → unplaced s x = true →
          (head = 255#8 → Answers i 0x39#8 tag (.state .headRequired) id s) ∧
          ∀ h : HeadNo, head.toNat = h.1 →
            ((s.head h).state ≠ .on → Answers i 0x39#8 tag (.state .headState) id s) ∧
            ((s.head h).state = .on → (∀ p : Place, p.head = h → p.period = (s.link x).period →
                p.phase < p.period.frames → admissible s x p = false) →
              Answers i 0x39#8 tag .noSlot id s) ∧
            ∀ p, (s.head h).state = .on → FirstAdmissible s x h (s.link x).period 1 p →
              ∃ t, exec i s = .next t ∧
                .reply 0x39#8 tag (.ok (.craneRecover .recovering (some p) s.fs.now)) ∈ t.cp.replies ∧
                t.link x = { s.link x with health := .recovering, recovery := 0, phase := p.phase } ∧
                t.resv x = ⟨some p, none⟩ ∧ CraneSeen t x ∧ OthersKept x s t ∧
                t.record x = (s.record x).map fun w => { w with
                  centre := some h, leftQ := none, centreQ := none, rightQ := none, candidate := none, trigger := 0,
                  state := .settled, forced := false }))

/-- CRANE MOVE (R113): refused in the order RANGE, LINK-CLOSED, UNPLACED, HANDOVER, SAME-HEAD, HEAD-STATE, NOSLOT, the
last counted as blocked; otherwise the TARGET is admitted on the named head, at the admissible place of lowest slot
with the link's period and phase (R67), and the link enters DUAL, forced. The reply names the slot in which the
command was taken (log entry 39). -/
def Obligations.CraneMoveIsAnswered : Prop :=
  ∀ tag link head s, Ready s →
    let i := Instr.craneMove tag link head
    (24 ≤ link.toNat ∨ 12 ≤ head.toNat → Answers i 0x3A#8 tag .range id s) ∧
    ∀ (x : LinkNo) (h : HeadNo), link.toNat = x.1 → head.toNat = h.1 →
      ((s.link x).mode = .closed → Answers i 0x3A#8 tag (.state .linkClosed) id s) ∧
      ((s.link x).mode ≠ .closed → unplaced s x = true → Answers i 0x3A#8 tag (.state .unplaced) id s) ∧
      ∀ w, (s.link x).mode ≠ .closed → unplaced s x = false → s.record x = some w →
        (w.state = .dual → Answers i 0x3A#8 tag (.state .handover) id s) ∧
        (w.state ≠ .dual → servingHead s x = some h → Answers i 0x3A#8 tag (.state .sameHead) id s) ∧
        (w.state ≠ .dual → servingHead s x ≠ some h →
          ((s.head h).state ≠ .on → Answers i 0x3A#8 tag (.state .headState) id s) ∧
          ((s.head h).state = .on → NoTarget s x h → Answers i 0x3A#8 tag .noSlot
            (fun u => u.setRecord x (some { w with blocked := bump w.blocked })) s) ∧
          ∀ p, (s.head h).state = .on → TargetFound s x h p →
            ∃ t, exec i s = .next t ∧ .reply 0x3A#8 tag (.ok (.craneMove p s.fs.now)) ∈ t.cp.replies ∧
              t.resv x = { s.resv x with target := some p } ∧
              t.record x = some { w with state := .dual, dual := 0, forced := true } ∧
              t.cle.links = s.cle.links ∧ OthersKept x s t)

/-! ## Commands of the Reefer Registry and the Report Unit -/

/-- FILTER SET and PROFILE SET (R124, R125): object numbers out of range give RANGE and change nothing; otherwise the
fields carried take the values carried, those of a profile clamped to their ranges, and the rest stands. UNIT RELEASE
(R136): an index above 1023 gives RANGE, an unknown unit id NOT-LISTED; a FREE entry gives OK with no change; any other
becomes FREE and leaves the poll queue, and the reply gives the id and state it held. -/
def Obligations.FiltersProfilesAndReleaseAreAnswered : Prop :=
  ((∀ tag mask s, Ready s → Answers (.filterSet tag mask none) 0x40#8 tag
    (.ok (.filterSet s.reg.filters (mask.getD s.reg.mask)))
    (fun u => { u with reg := { u.reg with mask := mask.getD s.reg.mask } }) s) ∧
  (∀ tag mask (v : FilterVals) s, Ready s →
    (8 ≤ v.filter.toNat ∨ 4 ≤ v.profile.toNat → Answers (.filterSet tag mask (some v)) 0x40#8 tag .range id s) ∧
    ∀ (i : Fin 8) (p : Fin 4), v.filter.toNat = i.1 → v.profile.toNat = p.1 →
      ∀ filters, filters = put s.reg.filters i
        { enabled := v.enabled, pattern := v.pattern, action := if v.action = 0#8 then .accept else .reject,
          profile := p, ownMask := if i.1 < 6 then (s.reg.filters.get i).ownMask else v.ownMask } →
      Answers (.filterSet tag mask (some v)) 0x40#8 tag (.ok (.filterSet filters (mask.getD s.reg.mask)))
        (fun u => { u with reg := { u.reg with mask := mask.getD s.reg.mask, filters := filters } }) s) ∧
  ∀ tag (profile : Byte) (r f : Option Word16) (d e a : Option Byte) (g : Option Word16) s, Ready s →
    (4 ≤ profile.toNat → Answers (.profileSet tag profile r f d e a g) 0x41#8 tag .range id s) ∧
    ∀ i : Fin 4, profile.toNat = i.1 → ∀ p : Profile,
      p = { report := (r.map fun v => max 1 (min 4095 v.toNat)).getD (s.reg.profiles.get i).report
            forward := (f.map fun v => max 1 (min 30000 v.toNat)).getD (s.reg.profiles.get i).forward
            deadband := (d.map fun v => min 100 v.toNat).getD (s.reg.profiles.get i).deadband
            excursion := (e.map fun v => max 1 (min 200 v.toNat)).getD (s.reg.profiles.get i).excursion
            attempts := (a.map fun v => max 1 (min 7 v.toNat)).getD (s.reg.profiles.get i).attempts
            gone := (g.map fun v => max 1 (min 30000 v.toNat)).getD (s.reg.profiles.get i).gone } →
      Answers (.profileSet tag profile r f d e a g) 0x41#8 tag (.ok (.profileSet p))
        (fun u => { u with reg := { u.reg with profiles := put s.reg.profiles i p } }) s) ∧
  (∀ tag entry s, Ready s →
    (∀ n : Word32, entry = .index n → 1024 ≤ n.toNat → Answers (.unitRelease tag entry) 0x43#8 tag .range id s) ∧
    (∀ uid, entry = .unitId uid → (∀ u, (s.unit u).state = .free ∨ (s.unit u).unitId ≠ uid) →
      Answers (.unitRelease tag entry) 0x43#8 tag (.state .notListed) id s) ∧
    ∀ u, namedUnit s entry = .ok u →
      ((s.unit u).state = .free → Answers (.unitRelease tag entry) 0x43#8 tag
        (.ok (.unitRelease (s.unit u).unitId .free)) id s) ∧
      ((s.unit u).state ≠ .free → Answers (.unitRelease tag entry) 0x43#8 tag
        (.ok (.unitRelease (s.unit u).unitId (s.unit u).state))
        (fun v => { v with reg := { v.reg with
          units := put s.reg.units u UnitEntry.free, pollQueue := s.reg.pollQueue.filter (· != u) } }) s))

/-- ALARM ACK (R137): a FREE entry gives NOT-LISTED; otherwise each kind named that is latched and not live is removed
from the latched alarms, bit by bit, and nothing else changes. -/
def Obligations.AlarmAckClearsLatchedAlarms : Prop :=
  ∀ tag entry (kinds : Byte) s, Ready s →
    (∀ n : Word32, entry = .index n → 1024 ≤ n.toNat → Answers (.alarmAck tag entry kinds) 0x44#8 tag .range id s) ∧
    (∀ uid, entry = .unitId uid → (∀ u, (s.unit u).state = .free ∨ (s.unit u).unitId ≠ uid) →
      Answers (.alarmAck tag entry kinds) 0x44#8 tag (.state .notListed) id s) ∧
    ∀ u, namedUnit s entry = .ok u →
      ((s.unit u).state = .free → Answers (.alarmAck tag entry kinds) 0x44#8 tag (.state .notListed) id s) ∧
      ((s.unit u).state ≠ .free → ∃ latched : BitVec 4,
        (∀ i < 4, latched.getLsbD i =
          ((s.unit u).latched.getLsbD i && !(kinds.getLsbD i && !(s.unit u).live.getLsbD i))) ∧
        Answers (.alarmAck tag entry kinds) 0x44#8 tag (.ok (.alarmAck latched (s.unit u).live))
          (fun v => { v with reg := { v.reg with units := put s.reg.units u { s.unit u with latched := latched } } }) s)

/-- REPORT SET, FETCH REPORTS and FETCH ALARMS (R152, R153): the threshold is clamped to 1..256; a fetch takes its count
clamped to 1..16, returns the oldest records in queue order and the depth left, and removes them; nothing else
changes. -/
def Obligations.ReportsAreFetched : Prop :=
  ∀ tag s, Ready s →
    (∀ n : Word16, Answers (.reportSet tag n) 0x48#8 tag
      (.ok (.reportSet (max 1 (min 256 n.toNat)) s.rep.reports.length))
      (fun u => { u with rep := { u.rep with threshold := max 1 (min 256 n.toNat) } }) s) ∧
    (∀ n : Byte, Answers (.fetchReports tag n) 0x4A#8 tag
      (.ok (.fetchReports (s.rep.reports.take (max 1 (min 16 n.toNat)))
        (s.rep.reports.length - max 1 (min 16 n.toNat))))
      (fun u => { u with rep := { u.rep with reports := s.rep.reports.drop (max 1 (min 16 n.toNat)) } }) s) ∧
    ∀ n : Byte, Answers (.fetchAlarms tag n) 0x4B#8 tag
      (.ok (.fetchAlarms (s.rep.alarms.take (max 1 (min 16 n.toNat)))
        (s.rep.alarms.length - max 1 (min 16 n.toNat))))
      (fun u => { u with rep := { u.rep with alarms := s.rep.alarms.drop (max 1 (min 16 n.toNat)) } }) s

/-! ## The laws of the device -/

/-- Every law of the device holds after hard reset. -/
def Obligations.ResetKeepsEveryLaw : Prop :=
  PortLaw State.reset ∧ ReuseLaw State.reset ∧ PoolLaw State.reset ∧ StopLaw State.reset ∧ ScoreLaw State.reset ∧
    QualityLaw State.reset ∧ HeadLaw State.reset ∧ UnitIdLaw State.reset ∧ PollLaw State.reset

/-- Every step keeps the capacities of inbound buffer and outbound queue (R161, R162, R165) and of the Report Unit's
ack, report and alarm queues (R149, R151, R154). -/
def Obligations.StepKeepsPortLaw : Prop := ∀ s t, PortLaw s → step s = .next t → PortLaw t

/-- Every step keeps the reuse rule, with the reservation table free of collisions and the active plan's spacing
(R15), and every LISTEN cell beside a head with a CRANE cell of its link in the same slot (R17). -/
def Obligations.StepKeepsReuseLaw : Prop := ∀ s t, ReuseLaw s → step s = .next t → ReuseLaw t

/-- Every step keeps the 512 entries of the command pool, free or in a list (R81). -/
def Obligations.StepKeepsPoolLaw : Prop := ∀ s t, PoolLaw s → step s = .next t → PoolLaw t

/-- Every step keeps QSTOP equal to what the links show (R107). -/
def Obligations.StepKeepsStopLaw : Prop := ∀ s t, StopLaw s → step s = .next t → StopLaw t

/-- Every step keeps fault score and health in agreement (R101) and the filtered qualities in 0..4080 (R47). -/
def Obligations.StepKeepsScoresAndQualities : Prop :=
  (∀ s t, ScoreLaw s → step s = .next t → ScoreLaw t) ∧ ∀ s t, QualityLaw s → step s = .next t → QualityLaw t

/-- Every step keeps reservations and serving heads on heads in service, with what links hold (R28, R62). -/
def Obligations.StepKeepsHeadLaw : Prop := ∀ s t, HeadLaw s → step s = .next t → HeadLaw t

/-- Every step keeps unit ids distinct (R126) and the poll queue as the POLLING units, each once (R133). -/
def Obligations.StepKeepsRegistryLaws : Prop :=
  (∀ s t, UnitIdLaw s → step s = .next t → UnitIdLaw t) ∧ ∀ s t, PollLaw s → step s = .next t → PollLaw t

/-- A measurement (R49): an invalid filtered quality becomes 16 L; a valid one steps by the difference divided by two to
the filter constant, truncated toward zero, or by one toward 16 L where that is 0; it stays in 0..4080, never passes
16 L, and stands once it is there. -/
def Obligations.MeasurementFilters : Prop :=
  ∀ k L F, 1 ≤ k → L ≤ 255 → F ≤ 4080 →
    filterStep k L none = 16 * L ∧
    ((filterStep k L (some F) : Nat) : Int) = (F : Int) +
      (if (16 * (L : Int) - F).tdiv (2 ^ k) = 0 then (16 * (L : Int) - F).sign
       else (16 * (L : Int) - F).tdiv (2 ^ k)) ∧
    filterStep k L (some F) ≤ 4080 ∧ filterStep k L (some (16 * L)) = 16 * L ∧
    (F ≤ 16 * L → F ≤ filterStep k L (some F) ∧ filterStep k L (some F) ≤ 16 * L) ∧
    (16 * L ≤ F → 16 * L ≤ filterStep k L (some F) ∧ filterStep k L (some F) ≤ F)
end

