-- ==== Sys2Proof/Laws/State.lean ====
section
/-! SUPPORT. What each plain update of State leaves of each field, so that no proof unfolds a record update. -/

namespace Sys2Proof.Machine.State

section
variable (s : State)

/-! ## Reading back what was written -/

@[simp] theorem head_setHead_same (h : HeadNo) (r : HeadRecord) : (s.setHead h r).head h = r := by
  simp [setHead, head]

@[simp] theorem head_setHead_other {h g : HeadNo} (r : HeadRecord) (ne : h ≠ g) : (s.setHead h r).head g = s.head g := by
  simp [setHead, head, ne]

theorem head_setHead (h g : HeadNo) (r : HeadRecord) : (s.setHead h r).head g = if h = g then r else s.head g := by
  simp [setHead, head, get_put]

@[simp] theorem link_setLink_same (x : LinkNo) (l : Link) : (s.setLink x l).link x = l := by simp [setLink, link]

@[simp] theorem link_setLink_other {x y : LinkNo} (l : Link) (ne : x ≠ y) : (s.setLink x l).link y = s.link y := by
  simp [setLink, link, ne]

theorem link_setLink (x y : LinkNo) (l : Link) : (s.setLink x l).link y = if x = y then l else s.link y := by
  simp [setLink, link, get_put]

theorem exch_setExch (x y : LinkNo) (e : Exchange) : (s.setExch x e).exch y = if x = y then e else s.exch y := by
  simp [setExch, exch, get_put]

theorem prevExch_setPrevExch (x y : LinkNo) (e : Exchange) :
    (s.setPrevExch x e).prevExch y = if x = y then e else s.prevExch y := by
  simp [setPrevExch, prevExch, get_put]

@[simp] theorem record_setRecord_same (x : LinkNo) (w : Option Handover) : (s.setRecord x w).record x = w := by
  simp [setRecord, record]

@[simp] theorem record_setRecord_other {x y : LinkNo} (w : Option Handover) (ne : x ≠ y) :
    (s.setRecord x w).record y = s.record y := by
  simp [setRecord, record, ne]

theorem record_setRecord (x y : LinkNo) (w : Option Handover) :
    (s.setRecord x w).record y = if x = y then w else s.record y := by
  simp [setRecord, record, get_put]

@[simp] theorem resv_setResv_same (x : LinkNo) (r : Held) : (s.setResv x r).resv x = r := by simp [setResv, resv]

@[simp] theorem resv_setResv_other {x y : LinkNo} (r : Held) (ne : x ≠ y) : (s.setResv x r).resv y = s.resv y := by
  simp [setResv, resv, ne]

theorem resv_setResv (x y : LinkNo) (r : Held) : (s.setResv x r).resv y = if x = y then r else s.resv y := by
  simp [setResv, resv, get_put]

@[simp] theorem unit_setUnit_same (u : UnitNo) (e : UnitEntry) : (s.setUnit u e).unit u = e := by simp [setUnit, unit]

@[simp] theorem unit_setUnit_other {u v : UnitNo} (e : UnitEntry) (ne : u ≠ v) :
    (s.setUnit u e).unit v = s.unit v := by
  simp [setUnit, unit, ne]

theorem unit_setUnit (u v : UnitNo) (e : UnitEntry) : (s.setUnit u e).unit v = if u = v then e else s.unit v := by
  simp [setUnit, unit, get_put]

theorem cell_setCell (h g : HeadNo) (sl tl : SlotNo) (c : Cell) :
    (s.setCell h sl c).cell g tl = if h = g ∧ sl = tl then c else s.cell g tl := by
  by_cases hg : h = g
  · subst hg; simp [setCell, cell, get_put]
  · simp [setCell, cell, hg]

/-! ## What a write leaves of the rest -/

@[simp] theorem setHead_fs (h : HeadNo) (r : HeadRecord) : (s.setHead h r).fs = s.fs := rfl
@[simp] theorem setHead_cle (h : HeadNo) (r : HeadRecord) : (s.setHead h r).cle = s.cle := rfl
@[simp] theorem setHead_cov (h : HeadNo) (r : HeadRecord) : (s.setHead h r).cov = s.cov := rfl
@[simp] theorem setHead_reg (h : HeadNo) (r : HeadRecord) : (s.setHead h r).reg = s.reg := rfl
@[simp] theorem setHead_rep (h : HeadNo) (r : HeadRecord) : (s.setHead h r).rep = s.rep := rfl
@[simp] theorem setHead_cp (h : HeadNo) (r : HeadRecord) : (s.setHead h r).cp = s.cp := rfl
@[simp] theorem setHead_now (h : HeadNo) (r : HeadRecord) : (s.setHead h r).now = s.now := rfl
@[simp] theorem setHead_link (h : HeadNo) (r : HeadRecord) (x : LinkNo) : (s.setHead h r).link x = s.link x := rfl
@[simp] theorem setHead_resv (h : HeadNo) (r : HeadRecord) (x : LinkNo) : (s.setHead h r).resv x = s.resv x := rfl
@[simp] theorem setHead_record (h : HeadNo) (r : HeadRecord) (x : LinkNo) : (s.setHead h r).record x = s.record x := rfl
@[simp] theorem setHead_unit (h : HeadNo) (r : HeadRecord) (u : UnitNo) : (s.setHead h r).unit u = s.unit u := rfl
@[simp] theorem setHead_openSlot (h : HeadNo) (r : HeadRecord) : (s.setHead h r).hp.openSlot = s.hp.openSlot := rfl

@[simp] theorem setLink_fs (x : LinkNo) (l : Link) : (s.setLink x l).fs = s.fs := rfl
@[simp] theorem setLink_hp (x : LinkNo) (l : Link) : (s.setLink x l).hp = s.hp := rfl
@[simp] theorem setLink_cov (x : LinkNo) (l : Link) : (s.setLink x l).cov = s.cov := rfl
@[simp] theorem setLink_reg (x : LinkNo) (l : Link) : (s.setLink x l).reg = s.reg := rfl
@[simp] theorem setLink_rep (x : LinkNo) (l : Link) : (s.setLink x l).rep = s.rep := rfl
@[simp] theorem setLink_cp (x : LinkNo) (l : Link) : (s.setLink x l).cp = s.cp := rfl
@[simp] theorem setLink_now (x : LinkNo) (l : Link) : (s.setLink x l).now = s.now := rfl
@[simp] theorem setLink_head (x : LinkNo) (l : Link) (h : HeadNo) : (s.setLink x l).head h = s.head h := rfl
@[simp] theorem setLink_resv (x y : LinkNo) (l : Link) : (s.setLink x l).resv y = s.resv y := rfl
@[simp] theorem setLink_record (x y : LinkNo) (l : Link) : (s.setLink x l).record y = s.record y := rfl
@[simp] theorem setLink_exch (x y : LinkNo) (l : Link) : (s.setLink x l).exch y = s.exch y := rfl
@[simp] theorem setLink_poolFree (x : LinkNo) (l : Link) : (s.setLink x l).cle.poolFree = s.cle.poolFree := rfl
@[simp] theorem setLink_contributions (x : LinkNo) (l : Link) :
    (s.setLink x l).cle.contributions = s.cle.contributions := rfl
@[simp] theorem setLink_qstop (x : LinkNo) (l : Link) : (s.setLink x l).cle.qstop = s.cle.qstop := rfl

@[simp] theorem setResv_hp (x : LinkNo) (r : Held) : (s.setResv x r).hp = s.hp := rfl
@[simp] theorem setResv_cle (x : LinkNo) (r : Held) : (s.setResv x r).cle = s.cle := rfl
@[simp] theorem setResv_cov (x : LinkNo) (r : Held) : (s.setResv x r).cov = s.cov := rfl
@[simp] theorem setResv_reg (x : LinkNo) (r : Held) : (s.setResv x r).reg = s.reg := rfl
@[simp] theorem setResv_rep (x : LinkNo) (r : Held) : (s.setResv x r).rep = s.rep := rfl
@[simp] theorem setResv_cp (x : LinkNo) (r : Held) : (s.setResv x r).cp = s.cp := rfl
@[simp] theorem setResv_now (x : LinkNo) (r : Held) : (s.setResv x r).now = s.now := rfl
@[simp] theorem setResv_head (x : LinkNo) (r : Held) (h : HeadNo) : (s.setResv x r).head h = s.head h := rfl
@[simp] theorem setResv_link (x y : LinkNo) (r : Held) : (s.setResv x r).link y = s.link y := rfl
@[simp] theorem setResv_record (x y : LinkNo) (r : Held) : (s.setResv x r).record y = s.record y := rfl
@[simp] theorem setResv_cell (x : LinkNo) (r : Held) (h : HeadNo) (sl : SlotNo) :
    (s.setResv x r).cell h sl = s.cell h sl := rfl

@[simp] theorem setRecord_fs (x : LinkNo) (w : Option Handover) : (s.setRecord x w).fs = s.fs := rfl
@[simp] theorem setRecord_hp (x : LinkNo) (w : Option Handover) : (s.setRecord x w).hp = s.hp := rfl
@[simp] theorem setRecord_cle (x : LinkNo) (w : Option Handover) : (s.setRecord x w).cle = s.cle := rfl
@[simp] theorem setRecord_reg (x : LinkNo) (w : Option Handover) : (s.setRecord x w).reg = s.reg := rfl
@[simp] theorem setRecord_rep (x : LinkNo) (w : Option Handover) : (s.setRecord x w).rep = s.rep := rfl
@[simp] theorem setRecord_cp (x : LinkNo) (w : Option Handover) : (s.setRecord x w).cp = s.cp := rfl
@[simp] theorem setRecord_head (x : LinkNo) (w : Option Handover) (h : HeadNo) :
    (s.setRecord x w).head h = s.head h := rfl
@[simp] theorem setRecord_link (x y : LinkNo) (w : Option Handover) : (s.setRecord x w).link y = s.link y := rfl
@[simp] theorem setRecord_resv (x y : LinkNo) (w : Option Handover) : (s.setRecord x w).resv y = s.resv y := rfl

@[simp] theorem setExch_fs (x : LinkNo) (e : Exchange) : (s.setExch x e).fs = s.fs := rfl
@[simp] theorem setExch_hp (x : LinkNo) (e : Exchange) : (s.setExch x e).hp = s.hp := rfl
@[simp] theorem setExch_cov (x : LinkNo) (e : Exchange) : (s.setExch x e).cov = s.cov := rfl
@[simp] theorem setExch_reg (x : LinkNo) (e : Exchange) : (s.setExch x e).reg = s.reg := rfl
@[simp] theorem setExch_rep (x : LinkNo) (e : Exchange) : (s.setExch x e).rep = s.rep := rfl
@[simp] theorem setExch_cp (x : LinkNo) (e : Exchange) : (s.setExch x e).cp = s.cp := rfl
@[simp] theorem setExch_head (x : LinkNo) (e : Exchange) (h : HeadNo) : (s.setExch x e).head h = s.head h := rfl
@[simp] theorem setExch_link (x y : LinkNo) (e : Exchange) : (s.setExch x e).link y = s.link y := rfl
@[simp] theorem setPrevExch_fs (x : LinkNo) (e : Exchange) : (s.setPrevExch x e).fs = s.fs := rfl
@[simp] theorem setPrevExch_hp (x : LinkNo) (e : Exchange) : (s.setPrevExch x e).hp = s.hp := rfl
@[simp] theorem setPrevExch_cov (x : LinkNo) (e : Exchange) : (s.setPrevExch x e).cov = s.cov := rfl
@[simp] theorem setPrevExch_reg (x : LinkNo) (e : Exchange) : (s.setPrevExch x e).reg = s.reg := rfl
@[simp] theorem setPrevExch_rep (x : LinkNo) (e : Exchange) : (s.setPrevExch x e).rep = s.rep := rfl
@[simp] theorem setPrevExch_cp (x : LinkNo) (e : Exchange) : (s.setPrevExch x e).cp = s.cp := rfl
@[simp] theorem setPrevExch_link (x y : LinkNo) (e : Exchange) : (s.setPrevExch x e).link y = s.link y := rfl

@[simp] theorem setUnit_fs (u : UnitNo) (e : UnitEntry) : (s.setUnit u e).fs = s.fs := rfl
@[simp] theorem setUnit_hp (u : UnitNo) (e : UnitEntry) : (s.setUnit u e).hp = s.hp := rfl
@[simp] theorem setUnit_cle (u : UnitNo) (e : UnitEntry) : (s.setUnit u e).cle = s.cle := rfl
@[simp] theorem setUnit_cov (u : UnitNo) (e : UnitEntry) : (s.setUnit u e).cov = s.cov := rfl
@[simp] theorem setUnit_rep (u : UnitNo) (e : UnitEntry) : (s.setUnit u e).rep = s.rep := rfl
@[simp] theorem setUnit_cp (u : UnitNo) (e : UnitEntry) : (s.setUnit u e).cp = s.cp := rfl
@[simp] theorem setUnit_pollQueue (u : UnitNo) (e : UnitEntry) :
    (s.setUnit u e).reg.pollQueue = s.reg.pollQueue := rfl
@[simp] theorem setPollQueue_pollQueue (q : List UnitNo) : (s.setPollQueue q).reg.pollQueue = q := rfl
@[simp] theorem setPollQueue_unit (q : List UnitNo) (u : UnitNo) : (s.setPollQueue q).unit u = s.unit u := rfl
@[simp] theorem setPollQueue_cp (q : List UnitNo) : (s.setPollQueue q).cp = s.cp := rfl
@[simp] theorem setPollQueue_rep (q : List UnitNo) : (s.setPollQueue q).rep = s.rep := rfl
@[simp] theorem setPollQueue_hp (q : List UnitNo) : (s.setPollQueue q).hp = s.hp := rfl
@[simp] theorem setPollQueue_cle (q : List UnitNo) : (s.setPollQueue q).cle = s.cle := rfl

@[simp] theorem setCell_hp (h : HeadNo) (sl : SlotNo) (c : Cell) : (s.setCell h sl c).hp = s.hp := rfl
@[simp] theorem setCell_cle (h : HeadNo) (sl : SlotNo) (c : Cell) : (s.setCell h sl c).cle = s.cle := rfl
@[simp] theorem setCell_cov (h : HeadNo) (sl : SlotNo) (c : Cell) : (s.setCell h sl c).cov = s.cov := rfl
@[simp] theorem setCell_reg (h : HeadNo) (sl : SlotNo) (c : Cell) : (s.setCell h sl c).reg = s.reg := rfl
@[simp] theorem setCell_rep (h : HeadNo) (sl : SlotNo) (c : Cell) : (s.setCell h sl c).rep = s.rep := rfl
@[simp] theorem setCell_cp (h : HeadNo) (sl : SlotNo) (c : Cell) : (s.setCell h sl c).cp = s.cp := rfl
@[simp] theorem setCell_resv (h : HeadNo) (sl : SlotNo) (c : Cell) (x : LinkNo) :
    (s.setCell h sl c).resv x = s.resv x := rfl
@[simp] theorem setCell_now (h : HeadNo) (sl : SlotNo) (c : Cell) : (s.setCell h sl c).now = s.now := rfl

end

end Sys2Proof.Machine.State
end

