-- ==== Sys2Proof/Laws/Port.lean ====
section
/-! SUPPORT. What the repetition over objects, a raise, a notice and a reply can do. -/

namespace Sys2Proof.Machine

/-! ## Repetition -/

@[simp] theorem forEach_nil {α : Type} (f : α → State → State) (s : State) : forEach [] f s = s := rfl

@[simp] theorem forEach_cons {α : Type} (a : α) (l : List α) (f : α → State → State) (s : State) :
    forEach (a :: l) f s = forEach l f (f a s) := rfl

/-- What every member keeps, the repetition keeps. -/
theorem forEach_keeps {α : Type} {P : State → Prop} {f : α → State → State} (l : List α)
    (step : ∀ a ∈ l, ∀ s, P s → P (f a s)) {s : State} (h : P s) : P (forEach l f s) := by
  induction l generalizing s with
  | nil => exact h
  | cons a l ih =>
    exact ih (fun b hb => step b (List.mem_cons_of_mem _ hb)) (step a (List.mem_cons_self ..) s h)

theorem forHeads_keeps {P : State → Prop} {f : HeadNo → State → State} (step : ∀ h s, P s → P (f h s)) {s : State}
    (h : P s) : P (forHeads f s) :=
  forEach_keeps _ (fun a _ => step a) h

theorem forLinks_keeps {P : State → Prop} {f : LinkNo → State → State} (step : ∀ x s, P s → P (f x s)) {s : State}
    (h : P s) : P (forLinks f s) :=
  forEach_keeps _ (fun a _ => step a) h

theorem forUnits_keeps {P : State → Prop} {f : UnitNo → State → State} (step : ∀ u s, P s → P (f u s)) {s : State}
    (h : P s) : P (forUnits f s) :=
  forEach_keeps _ (fun a _ => step a) h

/-- A view that no member changes, the repetition does not change. -/
theorem forEach_view {α β : Type} (v : State → β) {f : α → State → State} (step : ∀ a s, v (f a s) = v s)
    (l : List α) (s : State) : v (forEach l f s) = v s :=
  forEach_keeps (P := fun t => v t = v s) l (fun a _ t ht => (step a t).trans ht) rfl

/-! ## Notices and replies -/

theorem offerNotice_port (m : Message) (s : State) : offerNotice m s = { s with cp := (offerNotice m s).cp } := by
  unfold offerNotice; split <;> rfl

/-- What a notice leaves of the Control Port: it joins, or the drop count rises. -/
theorem offerNotice_cp (m : Message) (s : State) :
    (offerNotice m s).cp = { s.cp with notices := s.cp.notices ++ [m] } ∧ hasRoom s = true ∨
      (offerNotice m s).cp = { s.cp with noticeDrops := bump s.cp.noticeDrops } ∧ hasRoom s = false := by
  unfold offerNotice; split
  · exact .inl ⟨rfl, ‹_›⟩
  · rename_i h
    exact .inr ⟨rfl, by simpa using h⟩

@[simp] theorem queueReply_fs (m : Message) (s : State) : (queueReply m s).fs = s.fs := rfl
@[simp] theorem queueReply_hp (m : Message) (s : State) : (queueReply m s).hp = s.hp := rfl
@[simp] theorem queueReply_cle (m : Message) (s : State) : (queueReply m s).cle = s.cle := rfl
@[simp] theorem queueReply_cov (m : Message) (s : State) : (queueReply m s).cov = s.cov := rfl
@[simp] theorem queueReply_reg (m : Message) (s : State) : (queueReply m s).reg = s.reg := rfl
@[simp] theorem queueReply_rep (m : Message) (s : State) : (queueReply m s).rep = s.rep := rfl
@[simp] theorem queueReply_replies (m : Message) (s : State) : (queueReply m s).cp.replies = s.cp.replies ++ [m] := rfl
@[simp] theorem queueReply_notices (m : Message) (s : State) : (queueReply m s).cp.notices = s.cp.notices := rfl

/-! ## Raises -/

/-- A raise acts on the Control Port alone. -/
theorem raise_port (t : Time) (f : Flag) (object : Byte) (s : State) :
    raise t f object s = { s with cp := (raise t f object s).cp } := by
  unfold raise; split
  · rfl
  · dsimp only; split
    · rw [offerNotice_port]
    · rfl

/-- What a raise leaves of the Control Port but flags, notices and the drop count. -/
theorem raise_cp (t : Time) (f : Flag) (object : Byte) (s : State) :
    (raise t f object s).cp = { s.cp with
      flags := addMember s.cp.flags f.bit
      notices := (raise t f object s).cp.notices
      noticeDrops := (raise t f object s).cp.noticeDrops } := by
  unfold raise; split
  · rename_i h
    have : addMember s.cp.flags f.bit = s.cp.flags := by
      apply BitVec.eq_of_getLsbD_eq
      intro i hi
      by_cases e : i = f.bit
      · subst e; simp [addMember, h]
      · simp [addMember, BitVec.getLsbD_twoPow, Ne.symm e]
    rw [this]
  · dsimp only; split
    · rcases offerNotice_cp (.event f object (addMember s.cp.flags f.bit) t)
        { s with cp := { s.cp with flags := addMember s.cp.flags f.bit } } with ⟨h, -⟩ | ⟨h, -⟩ <;> rw [h]
    · rfl

@[simp] theorem raise_fs (t : Time) (f : Flag) (o : Byte) (s : State) : (raise t f o s).fs = s.fs := by rw [raise_port]
@[simp] theorem raise_hp (t : Time) (f : Flag) (o : Byte) (s : State) : (raise t f o s).hp = s.hp := by rw [raise_port]
@[simp] theorem raise_cle (t : Time) (f : Flag) (o : Byte) (s : State) : (raise t f o s).cle = s.cle := by rw [raise_port]
@[simp] theorem raise_cov (t : Time) (f : Flag) (o : Byte) (s : State) : (raise t f o s).cov = s.cov := by rw [raise_port]
@[simp] theorem raise_reg (t : Time) (f : Flag) (o : Byte) (s : State) : (raise t f o s).reg = s.reg := by rw [raise_port]
@[simp] theorem raise_rep (t : Time) (f : Flag) (o : Byte) (s : State) : (raise t f o s).rep = s.rep := by rw [raise_port]
@[simp] theorem raise_replies (t : Time) (f : Flag) (o : Byte) (s : State) :
    (raise t f o s).cp.replies = s.cp.replies := by rw [raise_cp]
@[simp] theorem raise_inbound (t : Time) (f : Flag) (o : Byte) (s : State) :
    (raise t f o s).cp.inbound = s.cp.inbound := by rw [raise_cp]
@[simp] theorem raise_rx (t : Time) (f : Flag) (o : Byte) (s : State) : (raise t f o s).cp.rx = s.cp.rx := by
  rw [raise_cp]
@[simp] theorem raise_flags (t : Time) (f : Flag) (o : Byte) (s : State) :
    (raise t f o s).cp.flags = addMember s.cp.flags f.bit := by rw [raise_cp]

theorem getLsbD_addMember {n : Nat} (set : BitVec n) (i j : Nat) :
    (addMember set i).getLsbD j = (set.getLsbD j || (decide (i = j) && decide (i < n))) := by
  simp only [addMember, BitVec.getLsbD_or, BitVec.getLsbD_twoPow]
  by_cases e : i = j <;> simp [e]

theorem Flag.bit_lt (f : Flag) : f.bit < 10 := by cases f <;> decide

theorem Flag.bit_injective {f g : Flag} (h : f.bit = g.bit) : f = g := by
  cases f <;> cases g <;> first | rfl | cases h

/-- A raise sets its flag and leaves every other as it was. -/
theorem flagSet_raise (t : Time) (f g : Flag) (o : Byte) (s : State) :
    flagSet (raise t f o s) g = (flagSet s g || decide (f = g)) := by
  have hi : decide (f.bit = g.bit) = decide (f = g) :=
    decide_eq_decide.mpr ⟨Flag.bit_injective, fun h => h ▸ rfl⟩
  rw [flagSet, raise_flags, getLsbD_addMember, hi, flagSet]
  simp [Flag.bit_lt]

/-- An outbound queue within its capacity stays so when a notice is offered. -/
theorem offerNotice_outbound (m : Message) {s : State} (h : (outbound s).length ≤ Config.outCapacity) :
    (outbound (offerNotice m s)).length ≤ Config.outCapacity := by
  unfold offerNotice; split
  · rename_i r
    simp [outbound, hasRoom, Config.outCapacity] at *; omega
  · exact h

/-- An outbound queue within its capacity stays so at a raise. -/
theorem raise_outbound (t : Time) (f : Flag) (o : Byte) {s : State} (h : (outbound s).length ≤ Config.outCapacity) :
    (outbound (raise t f o s)).length ≤ Config.outCapacity := by
  unfold raise; split
  · exact h
  · dsimp only; split
    · exact offerNotice_outbound _ h
    · exact h

end Sys2Proof.Machine
end

