-- ==== Sys2Proof/Laws/Host.lean ====
section
/-! SUPPORT. How a command reaches its meaning: the outcome of every row, and of a host command that is carried out at
once. -/

namespace Sys2Proof.Machine

/-- No command ends in a fault or a refusal. -/
theorem exec_next (i : Instr) (s : State) : ∃ t, exec i s = .next t := by
  cases i <;> exact ⟨_, rfl⟩

/-- A host command is the operation `hostCommand` while RESETN is high. -/
theorem exec_hostInstr (tag : Byte) (c : HostCmd) (s : State) :
    exec (hostInstr tag c) s = .next (if s.resetn then hostCommand tag c s else s) := by
  cases c <;> rfl

/-- The command may be taken at once when the queue has room. -/
theorem mayTake_of_room {s : State} (h : hasRoom s = true) (f : Frame) : mayTake f s = true := by simp [mayTake, h]

/-- A well-formed host command is carried out at once in a state that is ready (R162). -/
theorem exec_ready {s : State} (r : Ready s) (tag : Byte) {c : HostCmd} (w : c.wf = true) :
    exec (hostInstr tag c) s = .next (perform tag c s) := by
  rw [exec_hostInstr, hostCommand, if_pos r.running, if_pos ⟨r.noneWaiting, w, mayTake_of_room r.room _⟩]

/-- A command with a reply is carried out in the state that holds its reply (R165). -/
theorem perform_replied (tag : Byte) (c : HostCmd) (s : State) (a : ∀ l es, c ≠ .craneAppend l es)
    (q : c ≠ .quietReset) :
    perform tag c s = (carryOut c (queueReply (.reply c.kind tag (carryOut c s).2) s)).1 := by
  cases c
  case craneAppend l es => exact absurd rfl (a l es)
  case quietReset => exact absurd rfl q
  all_goals rfl

/-- A command whose operation answers `r` and leaves `f` of the state that holds the reply. -/
theorem answers_of {s : State} (ready : Ready s) {tag : Byte} {c : HostCmd} (w : c.wf = true)
    (a : ∀ l es, c ≠ .craneAppend l es) (q : c ≠ .quietReset) {r : Reply} {f : State → State}
    (reply : (carryOut c s).2 = r)
    (state : (carryOut c (queueReply (.reply c.kind tag r) s)).1 = f (queueReply (.reply c.kind tag r) s)) :
    Answers (hostInstr tag c) c.kind tag r f s := by
  rw [Answers, exec_ready ready tag w, perform_replied tag c s a q, reply, state]

/-- An object number in range names its object. -/
theorem objectNo_of_lt {n b : Nat} (h : b < n) : objectNo n b = some ⟨b, h⟩ := by simp [objectNo, h]

/-- An object number out of range names none. -/
theorem objectNo_of_le {n b : Nat} (h : n ≤ b) : objectNo n b = none := by simp [objectNo, h]

theorem linkNo_eq {b : Byte} {x : LinkNo} (h : b.toNat = x.1) : linkNo b = some x := by
  simp [linkNo, objectNo, h]

theorem headNo_eq {b : Byte} {h : HeadNo} (e : b.toNat = h.1) : headNo b = some h := by
  simp [headNo, objectNo, e]

end Sys2Proof.Machine
end

