-- ==== Sys2Proof/Laws/PerInstr.lean ====
section
/-! SUPPORT. The body of a well-formed host command has a length that its kind allows (R163), and the family of that
statement over the constructors of `Instr`. -/

namespace Sys2Proof

theorem flatMap_length_const {α β : Type} (f : α → List β) {n : Nat} (h : ∀ a, (f a).length = n) (l : List α) :
    (l.flatMap f).length = l.length * n := by
  induction l with
  | nil => simp
  | cons a l ih => simp [h, ih, Nat.add_mul, Nat.add_comm]

theorem EntryVals.bytes_length (e : EntryVals) : e.bytes.length = 10 := rfl

theorem PlanEdit.bytes_length (e : PlanEdit) : e.bytes.length = 5 := rfl

/-- A body of `1 + 5 n` bytes with at most 48 edits has a length PLAN STAGE allows (R174). -/
theorem kindLengthOk_planStage {n : Nat} (h : n ≤ 48) : kindLengthOk 0x10#8 (n * 5 + 1) = true := by
  simp [kindLengthOk, h]

/-- A body of `1 + 10 n` bytes with 1 to 16 entries has a length CRANE APPEND and CRANE SPLICE allow (R173). -/
theorem kindLengthOk_entries {n : Nat} (a : 1 ≤ n) (b : n ≤ 16) :
    kindLengthOk 0x34#8 (n * 10 + 1) = true ∧ kindLengthOk 0x35#8 (n * 10 + 1) = true := by
  simp [kindLengthOk]; omega

/-- The frame of a well-formed host command passes the test of kind and length (R163). -/
theorem HostCmd.kindLengthOk_of_wf (c : HostCmd) (w : c.wf = true) : kindLengthOk c.kind c.body.length = true := by
  cases c
  case planStage restart edits =>
    simp only [HostCmd.wf, decide_eq_true_eq] at w
    simp only [HostCmd.kind, HostCmd.body, List.length_cons, flatMap_length_const _ PlanEdit.bytes_length]
    exact kindLengthOk_planStage w
  case craneAppend link entries =>
    simp only [HostCmd.wf, Bool.and_eq_true, decide_eq_true_eq] at w
    simp only [HostCmd.kind, HostCmd.body, List.length_cons, flatMap_length_const _ EntryVals.bytes_length]
    exact (kindLengthOk_entries w.1 w.2).1
  case craneSplice link entries =>
    simp only [HostCmd.wf, Bool.and_eq_true, decide_eq_true_eq] at w
    simp only [HostCmd.kind, HostCmd.body, List.length_cons, flatMap_length_const _ EntryVals.bytes_length]
    exact (kindLengthOk_entries w.1 w.2).2
  case unitQuery n => cases n <;> rfl
  case unitRelease n => cases n <;> rfl
  case alarmAck n k => cases n <;> rfl
  all_goals rfl

namespace Laws.FrameLength

/-- Where the row is a host command and well formed, its frame passes the test of kind and body length (R163). -/
def Statement (i : Instr) : Prop :=
  ∀ tag c, i = Machine.hostInstr tag c → i.wf = true → kindLengthOk c.kind c.body.length = true

/-- `Instr.wf` of a host command's row is `HostCmd.wf` of the command. -/
theorem wf_hostInstr (tag : Byte) (c : HostCmd) : (Machine.hostInstr tag c).wf = c.wf := by cases c <;> rfl

/-- The statement for any one instruction. -/
theorem statement (i : Instr) : Statement i := by
  intro tag c e w
  subst e
  exact c.kindLengthOk_of_wf (wf_hostInstr tag c ▸ w)

theorem hardReset : Statement .hardReset := statement _
theorem resetnRise : Statement .resetnRise := statement _
theorem frameStart : Statement .frameStart := statement _
theorem unitBecomesPolling (unit : UnitNo) :
    Statement (.unitBecomesPolling unit) := statement _
theorem unitBecomesSilentByAge (unit : UnitNo) :
    Statement (.unitBecomesSilentByAge unit) := statement _
theorem unitBecomesGone (unit : UnitNo) :
    Statement (.unitBecomesGone unit) := statement _
theorem slotStart : Statement .slotStart := statement _
theorem headReturn (head : HeadNo) (mf : Word16) (frame slot result level : Byte) (bytes : List Byte) :
    Statement (.headReturn head mf frame slot result level bytes) := statement _
theorem headStatusRecord (head : HeadNo) (serial : Word32) (fault : Bool) :
    Statement (.headStatusRecord head serial fault) := statement _
theorem headLinkUp (head : HeadNo) (serial : Word32) (fault : Bool) :
    Statement (.headLinkUp head serial fault) := statement _
theorem headLinkGap (head : HeadNo) :
    Statement (.headLinkGap head) := statement _
theorem slotClose : Statement .slotClose := statement _
theorem headMissedAbsent (head : HeadNo) :
    Statement (.headMissedAbsent head) := statement _
theorem drainExpiry (head : HeadNo) :
    Statement (.drainExpiry head) := statement _
theorem recoveryComplete (link : LinkNo) :
    Statement (.recoveryComplete link) := statement _
theorem handoverAbandon (link : LinkNo) :
    Statement (.handoverAbandon link) := statement _
theorem testComplete (link : LinkNo) (differing : Fin 65) :
    Statement (.testComplete link differing) := statement _
theorem handoverStart (link : LinkNo) :
    Statement (.handoverStart link) := statement _
theorem pollAttemptsExhausted (unit : UnitNo) :
    Statement (.pollAttemptsExhausted unit) := statement _
theorem holdinChange (level : Bool) :
    Statement (.holdinChange level) := statement _
theorem frameReceived (kind tag : Byte) (body : List Byte) (check : Word16) :
    Statement (.frameReceived kind tag body check) := statement _
theorem frameGap : Statement .frameGap := statement _
theorem unknownCommand (tag kind : Byte) (body : List Byte) :
    Statement (.unknownCommand tag kind body) := statement _
theorem messageTransmitted : Statement .messageTransmitted := statement _
theorem pollEvents (tag : Byte) :
    Statement (.pollEvents tag) := statement _
theorem notifySet (tag : Byte) (flags : Word16) :
    Statement (.notifySet tag flags) := statement _
theorem identify (tag : Byte) :
    Statement (.identify tag) := statement _
theorem quietReset (tag : Byte) :
    Statement (.quietReset tag) := statement _
theorem planStage (tag : Byte) (restart : Bool) (edits : List PlanEdit) :
    Statement (.planStage tag restart edits) := statement _
theorem planCommit (tag : Byte) :
    Statement (.planCommit tag) := statement _
theorem planQuery (tag : Byte) :
    Statement (.planQuery tag) := statement _
theorem mapQuery (tag : Byte) :
    Statement (.mapQuery tag) := statement _
theorem headRestore (tag head : Byte) :
    Statement (.headRestore tag head) := statement _
theorem headRetire (tag head : Byte) :
    Statement (.headRetire tag head) := statement _
theorem headQuery (tag head : Byte) :
    Statement (.headQuery tag head) := statement _
theorem coverSet (tag : Byte) (filter hysteresis trigger weight stop : Option Byte) :
    Statement (.coverSet tag filter hysteresis trigger weight stop) := statement _
theorem craneOpen (tag link : Byte) (terminal : Word32) (head period slot : Byte) (interlock : Word16) (lowMark : Byte) :
    Statement (.craneOpen tag link terminal head period slot interlock lowMark) := statement _
theorem craneClose (tag link : Byte) :
    Statement (.craneClose tag link) := statement _
theorem craneMode (tag link mode : Byte) :
    Statement (.craneMode tag link mode) := statement _
theorem craneQuery (tag link : Byte) :
    Statement (.craneQuery tag link) := statement _
theorem craneAppend (tag link : Byte) (entries : List EntryVals) :
    Statement (.craneAppend tag link entries) := statement _
theorem craneSplice (tag link : Byte) (entries : List EntryVals) :
    Statement (.craneSplice tag link entries) := statement _
theorem craneFlush (tag link : Byte) :
    Statement (.craneFlush tag link) := statement _
theorem craneInterlock (tag link : Byte) (word : Word16) :
    Statement (.craneInterlock tag link word) := statement _
theorem craneTest (tag link : Byte) (exchanges : Word16) :
    Statement (.craneTest tag link exchanges) := statement _
theorem craneRecover (tag link head : Byte) :
    Statement (.craneRecover tag link head) := statement _
theorem craneMove (tag link head : Byte) :
    Statement (.craneMove tag link head) := statement _
theorem quayHold (tag code : Byte) :
    Statement (.quayHold tag code) := statement _
theorem filterSet (tag : Byte) (mask : Option Word32) (setting : Option FilterVals) :
    Statement (.filterSet tag mask setting) := statement _
theorem profileSet (tag profile : Byte) (report forward : Option Word16) (deadband excursion attempts : Option Byte) (gone : Option Word16) :
    Statement (.profileSet tag profile report forward deadband excursion attempts gone) := statement _
theorem unitQuery (tag : Byte) (entry : EntryName) :
    Statement (.unitQuery tag entry) := statement _
theorem unitRelease (tag : Byte) (entry : EntryName) :
    Statement (.unitRelease tag entry) := statement _
theorem alarmAck (tag : Byte) (entry : EntryName) (kinds : Byte) :
    Statement (.alarmAck tag entry kinds) := statement _
theorem registryQuery (tag : Byte) :
    Statement (.registryQuery tag) := statement _
theorem reportSet (tag : Byte) (threshold : Word16) :
    Statement (.reportSet tag threshold) := statement _
theorem reportQuery (tag : Byte) :
    Statement (.reportQuery tag) := statement _
theorem fetchReports (tag count : Byte) :
    Statement (.fetchReports tag count) := statement _
theorem fetchAlarms (tag count : Byte) :
    Statement (.fetchAlarms tag count) := statement _
theorem controlPortByteReceived (byte : Byte) (stopBit : Bool) :
    Statement (.controlPortByteReceived byte stopBit) := statement _
theorem headLinkByteReceived (head : HeadNo) (byte : Byte) :
    Statement (.headLinkByteReceived head byte) := statement _

end Laws.FrameLength

end Sys2Proof
end

