-- ==== Sys2Proof/Laws/Reports.lean ====
section
/-! SUPPORT. What the Report Unit's queues and the contention counts can do: one lemma for each shared operation. -/

namespace Sys2Proof.Machine

/-! ## The Report Unit's queues (R149, R151, R152, R154) -/

/-- A pair joins the ack queue, which never grows beyond 32 (R149). -/
theorem enqueueAck_joined (a : Ack) (s : State) : AckJoined s (enqueueAck a s) a := by
  unfold enqueueAck AckJoined
  split <;> simp_all [Config.ackCapacity]

/-- A pair acts on the ack queue and its loss count alone. -/
theorem enqueueAck_frame (a : Ack) (s : State) : enqueueAck a s =
    { s with rep := { s.rep with acks := (enqueueAck a s).rep.acks, ackLoss := (enqueueAck a s).rep.ackLoss } } := by
  unfold enqueueAck
  split <;> rfl

theorem enqueueAck_capacity (a : Ack) {s : State} (h : s.rep.acks.length ≤ Config.ackCapacity) :
    (enqueueAck a s).rep.acks.length ≤ Config.ackCapacity := by
  unfold enqueueAck Config.ackCapacity at *
  split <;> simp <;> omega

/-- An alarm record joins the alarm queue while it holds fewer than 32, and is else counted (R154). -/
theorem enqueueAlarm_rep (t : Time) (r : AlarmRecord) (s : State) : (enqueueAlarm t r s).rep =
    if Config.alarmCapacity ≤ s.rep.alarms.length then { s.rep with alarmOverflow := bump s.rep.alarmOverflow }
    else { s.rep with alarms := s.rep.alarms ++ [r] } := by
  unfold enqueueAlarm
  split
  · rfl
  · dsimp only
    split <;> simp [raisePlain]

/-- An alarm record acts on the alarm queue, its overflow count and the Control Port alone. -/
theorem enqueueAlarm_frame (t : Time) (r : AlarmRecord) (s : State) :
    enqueueAlarm t r s = { s with rep := (enqueueAlarm t r s).rep, cp := (enqueueAlarm t r s).cp } := by
  unfold enqueueAlarm
  split
  · rfl
  · dsimp only
    split
    · rw [raisePlain, raise_port]
    · rfl

theorem enqueueAlarm_capacity (t : Time) (r : AlarmRecord) {s : State}
    (h : s.rep.alarms.length ≤ Config.alarmCapacity) :
    (enqueueAlarm t r s).rep.alarms.length ≤ Config.alarmCapacity := by
  rw [enqueueAlarm_rep]
  split
  · exact h
  · simp; omega

/-- A report record joins the tail of the report queue, and raises REPORTS alone (R151, R152). -/
theorem joinReport_frame (t : Time) (r : ReportRecord) (s : State) : joinReport t r s =
    { s with rep := { s.rep with reports := s.rep.reports ++ [r] }, cp := (joinReport t r s).cp } := by
  unfold joinReport
  dsimp only
  split
  · rw [raisePlain, raise_port]
  · rfl

/-- REPORTS is raised when the depth rises to the threshold (R152). -/
theorem joinReport_flag (t : Time) (r : ReportRecord) (f : Flag) (s : State) : flagSet (joinReport t r s) f =
    (flagSet s f || decide (f = .reports ∧ s.rep.reports.length + 1 = s.rep.threshold)) := by
  unfold joinReport
  dsimp only
  split
  · rename_i h
    have e : s.rep.reports.length + 1 = s.rep.threshold := by omega
    rw [raisePlain, flagSet_raise]
    simp [flagSet, e, eq_comm]
  · rename_i h
    have e : s.rep.reports.length + 1 ≠ s.rep.threshold := by omega
    simp [flagSet, e]

/-- A record handed to the Report Unit is queued with the entry's gap flag, or refused and marked as a gap (R151). -/
theorem enqueueReport_handed (t : Time) (r : ReportRecord) (snap : Option Snapshot) (s : State) :
    RecordHanded s (enqueueReport t r snap s) r.index (s.unit r.index) r := by
  unfold enqueueReport RecordHanded Config.reportCapacity
  dsimp only
  split
  · rename_i h
    refine ⟨fun k => absurd k (by omega), fun _ => ⟨rfl, ?_, rfl, rfl⟩⟩
    simp [State.unit, State.setUnit]
  · rename_i h
    refine ⟨fun _ => ⟨?_, ?_, ?_, ?_⟩, fun k => absurd k h⟩
    · rw [joinReport_frame]; rfl
    · rw [joinReport_frame]; simp [State.unit, State.setUnit]
    · rw [joinReport_frame]; rfl
    · rw [joinReport_flag]; simp [flagSet, State.setUnit]

theorem enqueueReport_capacity (t : Time) (r : ReportRecord) (snap : Option Snapshot) {s : State}
    (h : s.rep.reports.length ≤ Config.reportCapacity) :
    (enqueueReport t r snap s).rep.reports.length ≤ Config.reportCapacity := by
  have k := enqueueReport_handed t r snap s
  unfold Config.reportCapacity at *
  by_cases e : s.rep.reports.length < 256
  · rw [(k.1 e).1]; simp; omega
  · rw [(k.2 (by omega)).1]; exact h

/-! ## The contention counts (R42) -/

/-- The garbled count of one head rises with a garbled result of its CONTENTION cell. -/
theorem countGarbled_head (r : SlotRecord) (h g : HeadNo) (s : State) : (countGarbled r h s).head g =
    if h = g ∧ garbledResult (r.entries.get h) = true then { s.head g with garbled := (s.head g).garbled + 1 }
    else s.head g := by
  unfold countGarbled
  split
  · rename_i e
    by_cases k : h = g
    · subst k; simp [State.head, State.setHead, e]
    · simp [State.head, State.setHead, k]
  · rename_i e; simp [e]

/-- Counting acts on the head records alone. -/
theorem countGarbled_frame (r : SlotRecord) (h : HeadNo) (s : State) :
    countGarbled r h s = { s with hp := { s.hp with heads := (countGarbled r h s).hp.heads } } := by
  unfold countGarbled
  split <;> rfl

/-- The recount of one head sets its last garbled count right by what its record brings and the boundary had counted. -/
theorem recountHead_head (r : SlotRecord) (counted : BitVec 12) (h g : HeadNo) (s : State) :
    (recountHead r counted h s).head g = if h = g then { s.head g with
      garbledLast := (s.head g).garbledLast + (if garbledResult (r.entries.get g) = true then 1 else 0) -
        if counted.getLsbD g.1 = true then 1 else 0 } else s.head g := by
  unfold recountHead
  by_cases k : h = g
  · subst k; simp [State.head, State.setHead]
  · simp [State.head, State.setHead, k]

/-- The recount acts on the head records alone. -/
theorem recountHead_frame (r : SlotRecord) (counted : BitVec 12) (h : HeadNo) (s : State) :
    recountHead r counted h s = { s with hp := { s.hp with heads := (recountHead r counted h s).hp.heads } } := rfl

/-- The marks of the garbled results are one bit for each head. -/
theorem garbledHeads_bit (r : SlotRecord) (h : HeadNo) :
    (garbledHeads r).getLsbD h.1 = garbledResult (r.entries.get h) := by
  have key : ∀ (l : List HeadNo) (m : BitVec 12),
      (l.foldl (fun m g => if garbledResult (r.entries.get g) = true then addMember m g.1 else m) m).getLsbD h.1 =
        (m.getLsbD h.1 || decide (h ∈ l) && garbledResult (r.entries.get h)) := by
    intro l
    induction l with
    | nil => simp
    | cons a l ih =>
      intro m
      rw [List.foldl_cons, ih]
      by_cases e : h = a
      · subst e
        split <;> simp_all [addMember]
      · have : ¬ h.1 = a.1 := fun k => e (Fin.ext k)
        split <;> simp [addMember, e, this]
  rw [garbledHeads, key]
  simp

/-! ## Replies (R172) -/

/-- A reply that has bytes begins with its result code. -/
theorem Reply.bytes_lead {r : Reply} {b : List Byte} (h : r.bytes = some b) : ∃ rest, b = r.lead ++ rest := by
  unfold Reply.bytes at h
  split at h
  · simp only [Option.map_eq_some_iff] at h
    obtain ⟨rest, -, rfl⟩ := h
    exact ⟨rest, rfl⟩
  · cases h
    exact ⟨[], by simp⟩

end Sys2Proof.Machine
end

