-- ==== Sys2Proof/Laws/Searches.lean ====
section
/-! SUPPORT. What the window, the scores and the searches of a crane link answer: the model's functions are what
Sys2Proof/Safety.lean says of them. -/

namespace Sys2Proof.Machine

/-! ## Neighbours -/

theorem headBelow_iff {c h : HeadNo} : headBelow c = some h ↔ h.1 + 1 = c.1 := by
  unfold headBelow objectNo
  split
  · simp; omega
  · split <;> simp [Fin.ext_iff] <;> omega

theorem headAbove_iff {c h : HeadNo} : headAbove c = some h ↔ c.1 + 1 = h.1 := by
  unfold headAbove objectNo
  split
  · simp [Fin.ext_iff]
  · simp; omega

theorem dist_one {a b : HeadNo} : dist a b = 1 ↔ headBelow a = some b ∨ headAbove a = some b := by
  rw [headBelow_iff, headAbove_iff, dist]
  omega

/-! ## Qualities and scores (R46, R52) -/

/-- A record gives head `h` a quality exactly where it is a valid one of its window. -/
theorem hasQuality_iff {w : Handover} {h : HeadNo} {q : Nat} : HasQuality w h q ↔ w.quality h = some q := by
  unfold HasQuality Handover.quality
  cases w.centre with
  | none => simp
  | some c =>
    simp only [Option.some.injEq, exists_eq_left', headBelow_iff, headAbove_iff]
    by_cases e : c = h
    · subst e; simp
    · have : h ≠ c := fun k => e k.symm
      have : h.1 ≠ c.1 := fun k => this (Fin.ext k)
      simp only [e, if_false]
      split
      · simp_all; omega
      · split <;> simp_all

theorem rivals_eq (s : State) (x : LinkNo) (h : HeadNo) : rivals s x h = otherLinks s x h := by
  unfold rivals otherLinks
  congr 1
  apply List.filter_congr
  intro y _
  rw [Bool.eq_iff_iff]
  simp [linkReservations, servingHead, targetHead]

/-- The model's effective score is the one the manual gives (R52). -/
theorem score_iff {s : State} {x : LinkNo} {h : HeadNo} {e : Int} : Score s x h e ↔ effectiveScore s x h = some e := by
  unfold Score effectiveScore scoreOf
  rw [rivals_eq]
  simp only [hasQuality_iff, Option.map_eq_some_iff, Option.bind_eq_some_iff]
  grind

/-! ## The ranked neighbours and the qualifier (R55, R116) -/

theorem neighbour_mem {s : State} {x : LinkNo} {n : Option HeadNo} {g : HeadNo} {e : Int} :
    (g, e) ∈ neighbour s x n ↔ n = some g ∧ (s.head g).state = .on ∧ Score s x g e := by
  unfold neighbour
  rw [score_iff]
  grind

/-- The ranked neighbours are the valid ON neighbours of the window's centre, with their scores. -/
theorem rankedNeighbours_mem {s : State} {x : LinkNo} {g : HeadNo} {e : Int} : (g, e) ∈ rankedNeighbours s x ↔
    ∃ c, (s.record x).bind (·.centre) = some c ∧ IsChoice s x c g e := by
  unfold rankedNeighbours IsChoice
  cases (s.record x).bind (·.centre) with
  | none => simp
  | some c =>
    simp only [Option.some.injEq, exists_eq_left', dist_one]
    have l := @neighbour_mem s x (headBelow c) g e
    have r := @neighbour_mem s x (headAbove c) g e
    grind

/-- Of the ranked neighbours one before another has the higher score, or an equal one and the lower number. -/
theorem rankedNeighbours_sorted (s : State) (x : LinkNo) :
    (rankedNeighbours s x).Pairwise fun a b => b.2 < a.2 ∨ b.2 = a.2 ∧ a.1 ≤ b.1 := by
  have low : ∀ n, (neighbour s x n).length ≤ 1 := by intro n; unfold neighbour; grind
  unfold rankedNeighbours
  cases (s.record x).bind (·.centre) with
  | none => simp
  | some c =>
    have hl := low (headBelow c)
    have hr := low (headAbove c)
    have ll : ∀ a ∈ neighbour s x (headBelow c), a.1.1 + 1 = c.1 := fun a h =>
      headBelow_iff.mp (neighbour_mem.mp h).1
    have rr : ∀ a ∈ neighbour s x (headAbove c), c.1 + 1 = a.1.1 := fun a h =>
      headAbove_iff.mp (neighbour_mem.mp h).1
    dsimp only
    generalize neighbour s x (headBelow c) = ls at *
    generalize neighbour s x (headAbove c) = rs at *
    have order : ∀ l ∈ ls, ∀ r ∈ rs, l.1 ≤ r.1 := fun l hl r hr =>
      Fin.le_def.mpr (by have := ll l hl; have := rr r hr; omega)
    rcases ls with _ | ⟨l, _ | _⟩ <;> rcases rs with _ | ⟨r, _ | _⟩ <;> grind

/-- The model's qualifier is the one the manual gives (R55). -/
theorem qualifier_iff {s : State} {x : LinkNo} {c q : HeadNo} : Qualifier s x c q ↔ qualifier s x c = some q := by
  have key : ∀ k g, Reaches s x c k g ↔ (k, g) ∈ rankedNeighbours s x ∧
      ∃ e, effectiveScore s x c = some e ∧ e + 16 * (s.cov.settings.hysteresis : Int) ≤ g := by
    intro k g
    rw [rankedNeighbours_mem]
    unfold Reaches IsChoice
    simp only [score_iff]
    cases hw : s.record x <;> grind
  unfold Qualifier qualifier
  simp only [key]
  have sorted := rankedNeighbours_sorted s x
  cases he : effectiveScore s x c with
  | none => simp
  | some e =>
    cases hr : rankedNeighbours s x with
    | nil => simp
    | cons b rest =>
      rw [hr] at sorted
      obtain ⟨bh, be⟩ := b
      simp only [List.pairwise_cons] at sorted
      simp only [Option.some.injEq, exists_eq_left', List.mem_cons]
      grind

/-! ## The searches (R66, R67) -/

/-- The slots of the target search, rising. -/
theorem searchSlots_one : searchSlots 1 = (List.finRange 24).filter fun sl => decide (sl ≠ 0) := by decide

/-- A search over places on rising slots finds the admissible one of lowest slot. -/
theorem lowestSlot_iff {s : State} {x : LinkNo} {place : SlotNo → Place} {p : Place} (slots : List SlotNo)
    (rising : slots.Pairwise (· < ·)) : (slots.map place).find? (admissible s x) = some p ↔
      ∃ sl ∈ slots, place sl = p ∧ admissible s x p = true ∧
        ∀ k ∈ slots, admissible s x (place k) = true → sl ≤ k := by
  induction slots with
  | nil => simp
  | cons first rest ih =>
    have lower := fun k hk => Fin.le_of_lt ((List.pairwise_cons.mp rising).1 k hk)
    have above := fun k hk => Fin.not_le.mpr ((List.pairwise_cons.mp rising).1 k hk)
    have ih := ih (List.pairwise_cons.mp rising).2
    rw [List.map_cons, List.find?_cons]
    cases ha : admissible s x (place first) <;> dsimp only
    · rw [ih]; grind
    · grind

/-- The model's target search finds the admissible place of lowest slot (R67). -/
theorem targetFound_iff {s : State} {x : LinkNo} {h : HeadNo} {p : Place} :
    TargetFound s x h p ↔ targetSearch s x h = some p := by
  unfold targetSearch
  rw [searchSlots_one, lowestSlot_iff _ (List.Pairwise.filter _ (List.pairwise_lt_finRange 24))]
  unfold TargetFound FitsLink
  simp only [List.mem_filter, List.mem_finRange, true_and, decide_eq_true_eq]
  constructor
  · rintro ⟨⟨rfl, hs, hp, hf⟩, ha, hk⟩
    refine ⟨p.slot, hs, ?_, ha, fun k hk0 hka => hk ⟨p.head, k, (s.link x).period, (s.link x).phase⟩ ⟨rfl, hk0, rfl, rfl⟩ hka⟩
    rw [← hp, ← hf]
  · rintro ⟨sl, hs, rfl, ha, hk⟩
    refine ⟨⟨rfl, hs, rfl, rfl⟩, ha, ?_⟩
    rintro ⟨g, sl', per, ph⟩ ⟨rfl, h0, rfl, rfl⟩ hq
    exact hk sl' h0 hq

/-- The model's target search reports NOSLOT where no place is admissible (R67). -/
theorem noTarget_iff {s : State} {x : LinkNo} {h : HeadNo} : NoTarget s x h ↔ targetSearch s x h = none := by
  unfold targetSearch NoTarget FitsLink
  rw [searchSlots_one]
  simp only [List.find?_eq_none, List.mem_map, List.mem_filter, List.mem_finRange, true_and, decide_eq_true_eq]
  constructor
  · rintro k p ⟨sl, h0, rfl⟩
    simp [k ⟨h, sl, (s.link x).period, (s.link x).phase⟩ ⟨rfl, h0, rfl, rfl⟩]
  · rintro k ⟨g, sl, per, ph⟩ ⟨rfl, h0, rfl, rfl⟩
    have := k _ ⟨sl, h0, rfl⟩
    simpa using this

end Sys2Proof.Machine
end

