-- ==== Sys2Proof/Tests/Slice0.lean ====
section
/-! SUPPORT. Small tests: ill-formed commands, layouts written out from Chapter 10, figures of the manual's worked
cases, and states that meet the hypotheses of the statements. Expected values come from spec/. -/

namespace Sys2Proof.Tests

open Sys2Proof.Machine

-- One thread at a time: kernel evaluations side by side would take the memory of many.
set_option Elab.async false

/-! ## Small states -/

/-- The state a command leaves. -/
def after (i : Instr) (s : State) : State :=
  match exec i s with
  | .next t => t
  | _ => s

theorem exec_after (i : Instr) (s : State) : exec i s = .next (after i s) := by
  obtain ⟨t, h⟩ := exec_next i s
  rw [after, h]

/-- Air time runs and stands at a time; the slot in it has not started. -/
def at' (t : Time) (s : State) : State := { s with fs := { s.fs with now := t, airStarted := true } }

/-- Head `h` in a state. -/
def headIn (h : HeadNo) (st : HeadState) (s : State) : State := s.setHead h { HeadRecord.reset with state := st }

/-- Link `x` open in a mode with its PRIMARY at `p` and a fresh handover record. -/
def opened (x : LinkNo) (p : Place) (m : Mode) (s : State) : State :=
  ((s.setLink x { Link.reset with
      mode := m, terminal := BitVec.ofNat 32 (100 + x.1), period := p.period, phase := p.phase }).setResv x
    ⟨some p, none⟩).setRecord x (some (Handover.atOpen p.head))

/-- `s` with the record of link `x` changed. -/
def withLink (x : LinkNo) (f : Link → Link) (s : State) : State := s.setLink x (f (s.link x))

/-- `s` with the handover record of link `x` changed. -/
def withRecord (x : LinkNo) (f : Handover → Handover) (s : State) : State := s.setRecord x ((s.record x).map f)

/-- A command entry with a host tag. -/
def entry (tag : Word16) : CraneEntry := ⟨tag, 0, 0, 0, 0, false, false⟩

/-- A slot in progress at a time with one entry; every other entry awaits nothing. -/
def inSlot (t : Time) (h : HeadNo) (e : Entry) (s : State) : State :=
  { s with hp := { s.hp with openSlot := some { emptySlot t with entries := put (emptySlot t).entries h e } } }

/-- Sixty-four waiting notices. -/
def full : State := { State.reset with cp := { State.reset.cp with notices := List.replicate 64 .ready } }

/-! ## Well-formedness -/

theorem test_wf_return_too_long : (Instr.headReturn 0 0#16 0#8 1#8 1#8 0#8 (List.replicate 65 0#8)).wf = false := by
  decide

theorem test_wf_frame_too_long : (Instr.frameReceived 1#8 0#8 (List.replicate 1019 0#8) 0#16).wf = false := by
  decide +kernel

theorem test_wf_unknown_too_long : (Instr.unknownCommand 0#8 5#8 (List.replicate 1019 0#8)).wf = false := by
  decide +kernel

theorem test_wf_unknown_is_known : (Instr.unknownCommand 0#8 0x03#8 []).wf = false := by decide

theorem test_wf_too_many_edits : (Instr.planStage 0#8 false (List.replicate 49 ⟨4#8, 0#8, 2#24⟩)).wf = false := by
  decide

theorem test_wf_append_empty : (Instr.craneAppend 0#8 0#8 []).wf = false := by decide

theorem test_wf_append_too_many :
    (Instr.craneAppend 0#8 0#8 (List.replicate 17 ⟨0#16, 0#16, 0#16, 0#16, 0#8, false⟩)).wf = false := by decide

theorem test_wf_splice_empty : (Instr.craneSplice 0#8 0#8 []).wf = false := by decide

theorem test_wf_splice_too_many :
    (Instr.craneSplice 0#8 0#8 (List.replicate 17 ⟨0#16, 0#16, 0#16, 0#16, 0#8, false⟩)).wf = false := by decide

/-! ## Layouts (Chapter 10) -/

/-- The check value of CRC-16 with generator 0x1021 and initial value all ones (R172): a published constant of that
check, for the nine characters 1 to 9. -/
theorem test_check : crc16 [0x31#8, 0x32#8, 0x33#8, 0x34#8, 0x35#8, 0x36#8, 0x37#8, 0x38#8, 0x39#8] = 0x29B1#16 := by
  decide +kernel

theorem test_decode_crane_open : decodeCommand 0x30#8
    [23#8, 0x00#8, 0x00#8, 0xCB#8, 0xF2#8, 11#8, 2#8, 7#8, 0x12#8, 0x34#8, 8#8] =
      some (.craneOpen 23#8 52210#32 11#8 2#8 7#8 0x1234#16 8#8) := by decide +kernel

theorem test_decode_crane_append : decodeCommand 0x34#8
    [3#8, 0x01#8, 0x02#8, 0xFF#8, 0xFF#8, 0x00#8, 0x05#8, 0x80#8, 0x00#8, 9#8, 1#8] =
      some (.craneAppend 3#8 [⟨0x0102#16, 0xFFFF#16, 5#16, 0x8000#16, 9#8, true⟩]) := by decide +kernel

theorem test_decode_plan_stage : decodeCommand 0x10#8 [1#8, 3#8, 11#8, 0x80#8, 0x00#8, 0x02#8] =
    some (.planStage true [⟨3#8, 11#8, 0x800002#24⟩]) := by decide +kernel

theorem test_decode_cover_set_ignores_absent : decodeCommand 0x28#8 [0x12#8, 9#8, 31#8, 9#8, 9#8, 0#8] =
    some (.coverSet none (some 31#8) none none (some 0#8)) := by decide +kernel

theorem test_decode_profile_set : decodeCommand 0x41#8
    [3#8, 0x21#8, 0x01#8, 0x90#8, 0#8, 7#8, 0#8, 0#8, 0#8, 0x5B#8, 0x8E#8] =
      some (.profileSet 3#8 (some 400#16) none none none none (some 23438#16)) := by decide +kernel

theorem test_decode_unit_release : decodeCommand 0x43#8 [1#8, 0xDE#8, 0xAD#8, 0xBE#8, 0xEF#8] =
    some (.unitRelease (.unitId 0xDEADBEEF#32)) := by decide +kernel

theorem test_decode_wrong_length : decodeCommand 0x37#8 [0#8, 0#8] = none ∧ decodeCommand 0x05#8 [] = none := by
  decide +kernel

/-! ## Figures of the worked cases -/

/-- 1.5: slot 4 of frame 1 with link A on head 2 and link B on head 5, and head 9 reefer-eligible. -/
def worked15 : State :=
  opened 1 ⟨5, 4, .two, 1⟩ .standby (opened 0 ⟨2, 4, .one, 0⟩ .standby
    ((List.finRange 12).foldl (fun s h => headIn h .on s) (at' ⟨0#16, 0, 0⟩ State.reset)))

theorem test_worked_map : ((List.finRange 12).map fun h => (after .frameStart worked15).cell h 4) =
    [.quiet, .listen 0, .crane 0 .primary, .listen 0, .listen 1, .crane 1 .primary, .listen 1, .quiet, .quiet,
     .contention, .quiet, .quiet] := by decide +kernel

/-- 3.7.1, exchanges 2 and 3, and the last step of 8 to 16 L. -/
theorem test_filter_steps : filterStep 3 92 (some 1592) = 1577 ∧ filterStep 3 90 (some 1577) = 1560 ∧
    filterStep 3 110 (some 1672) = 1683 ∧ filterStep 3 104 none = 1664 := by decide

/-- 6.6.3: failures 12 and 16. -/
theorem test_health_of_score : healthOf 95 = .good ∧ healthOf 96 = .warned ∧ healthOf 127 = .warned ∧
    healthOf 128 = .degraded ∧ healthOf 254 = .degraded ∧ healthOf 255 = .lost := by decide

/-- 6.6.1: the target search of link 3 on head 5 passes slot 1, where link 20 on head 6 collides. -/
theorem test_target_search : targetSearch
    (opened 20 ⟨6, 1, .one, 0⟩ .service (opened 3 ⟨4, 7, .two, 0⟩ .service (headIn 5 .on State.reset))) 3 5 =
      some ⟨5, 2, .two, 0⟩ := by decide +kernel

/-- R80: positions clamp to 8000 and the spreader to 15, with the clamped flag. -/
theorem test_entry_clamped : readEntry ⟨7#16, 0x8000#16, 8000#16, 8001#16, 16#8, true⟩ =
    ⟨7#16, -8000, 8000, 8000, 15, true, true⟩ := by decide +kernel

/-! ## The yard -/

/-- What R62 asks of one link, as a test. -/
def heldOk (s : State) (x : LinkNo) : Bool :=
  match s.record x, s.resv x with
  | none, ⟨none, none⟩ => (s.link x).mode == .closed
  | some w, ⟨none, none⟩ => (s.link x).mode != .closed && w.state != .dual && w.centre == none
  | some w, ⟨some p, none⟩ => (s.link x).mode != .closed && w.state != .dual && w.centre == some p.head
  | some w, ⟨some p, some q⟩ =>
    (s.link x).mode != .closed && w.state == .dual && w.centre == some p.head && p.head != q.head
  | _, _ => false

theorem heldLaw_of {s : State} (h : ∀ x, heldOk s x = true) : HeldLaw s := by
  intro x
  have k := h x
  unfold heldOk at k
  split at k <;> (constructor <;> simp_all [servingHead])

theorem ready_of {s : State} (h : (s.resetn && s.cp.inbound.isEmpty && hasRoom s) = true) : Ready s := by
  simp only [Bool.and_eq_true, List.isEmpty_iff] at h
  exact ⟨h.1.1, h.1.2, h.2⟩

/-- Air time stands before slot 4 of frame 3; a slot start waits in front. Heads 3, 4 and 9 are ON; head 6 is DRAINING
in the last frame of its drain and has missed two status records. Link 0 is in SERVICE on head 3, with its CRANE cell
in slot 4; link 1 is in a forced DUAL from head 6 to head 9, link 2 in a forced CANDIDATE on head 6. Unit 0 is homed
on head 3. -/
def yard : State :=
  let s := at' ⟨5#16, 3, 4⟩ { State.reset with pending := [.slotStart] }
  let s := headIn 9 .on (headIn 4 .on (headIn 3 .on s))
  let s := s.setHead 6 { HeadRecord.reset with state := .draining, missed := 2, drainTimer := 1 }
  let s := opened 2 ⟨6, 2, .four, 3⟩ .standby (opened 1 ⟨6, 5, .two, 1⟩ .standby (opened 0 ⟨3, 4, .one, 0⟩ .service s))
  let s := withRecord 2 (fun w => { w with state := .candidate, forced := true }) s
  let s := withRecord 1 (fun w => { w with state := .dual, forced := true, dual := 7 }) s
  let s := s.setResv 1 { s.resv 1 with target := some ⟨9, 8, .two, 1⟩ }
  let s := s.setUnit 0
    { UnitEntry.free with state := .listed, unitId := 77#32, serving := some 3, lastHeard := 5#16 }
  s.setCell 3 4 (.crane 0 .primary)

theorem yard_unit (u : UnitNo) : yard.unit u = if 0 = u then
    { UnitEntry.free with state := .listed, unitId := 77#32, serving := some 3, lastHeard := 5#16 }
    else UnitEntry.free := by
  change (put (Vector.replicate 1024 UnitEntry.free) 0 _).get u = _
  rw [get_put]
  split
  · rfl
  · simp [Vector.get_eq_getElem]

theorem yard_ready : Ready yard := ready_of (by decide +kernel)

theorem yard_heldLaw : HeldLaw yard := heldLaw_of (by decide +kernel)

theorem yard_tableLaw : TableLaw yard := by unfold TableLaw; decide +kernel

/-- The capacities of the five queues. -/
theorem portLaw_of {s : State} (h : (decide ((outbound s).length ≤ 64) && decide (s.cp.inbound.length ≤ 2) &&
    decide (s.rep.acks.length ≤ 32) && decide (s.rep.reports.length ≤ 256) && decide (s.rep.alarms.length ≤ 32)) =
      true) : PortLaw s := by
  simp only [Bool.and_eq_true, decide_eq_true_eq] at h
  exact ⟨h.1.1.1.1, h.1.1.1.2, h.1.1.2, h.1.2, h.2⟩

/-! ## States that meet the premises of the laws -/

theorem test_meets_step_keeps_port_law : PortLaw yard ∧
    step yard = .next (after .slotStart { yard with pending := [] }) :=
  ⟨portLaw_of (by decide +kernel), exec_after .slotStart { yard with pending := [] }⟩

theorem test_meets_step_keeps_reuse_law : ReuseLaw yard where
  table := yard_tableLaw
  spacing := by decide +kernel
  map := by unfold Reuse; decide +kernel
  listen := by
    have h : ∀ h sl, measuredLink (yard.cell h sl) = some 0 → yard.cell h sl = .crane 0 .primary := by decide +kernel
    have k : ∀ h sl x, measuredLink (yard.cell h sl) = some x → x = 0 := by decide +kernel
    intro g sl x e
    have e' : yard.cell g sl = .listen x := e
    have hx := k g sl x (by rw [e']; rfl)
    have := h g sl (by rw [e', hx]; rfl)
    rw [e'] at this
    cases this

theorem test_meets_step_keeps_pool_law : PoolLaw yard where
  total := by decide +kernel
  limit := by decide +kernel
  closed := by decide +kernel

theorem test_meets_step_keeps_stop_law : StopLaw yard where
  member := by decide +kernel
  pin := by decide +kernel

theorem test_meets_step_keeps_score_law : ScoreLaw yard := by
  have h : ∀ x, (yard.link x).score = 0 ∧ (yard.link x).health = .good := by decide +kernel
  intro x
  simp [ScoreFits, h x, healthOf]

theorem test_meets_step_keeps_quality_law : QualityLaw yard := by
  have h : ∀ x, (yard.record x).bind (·.leftQ) = none ∧ (yard.record x).bind (·.centreQ) = none ∧
    (yard.record x).bind (·.rightQ) = none := by decide +kernel
  intro x w e q k
  have hx := h x
  rw [e] at hx
  simp_all

theorem test_meets_step_keeps_head_law : HeadLaw yard where
  held := yard_heldLaw
  reservations := by decide +kernel
  units := by
    intro u h e
    rw [yard_unit] at e
    split at e
    · cases e; decide +kernel
    · cases e
  cells := by decide +kernel
  entries := by intro o h e; cases e

theorem test_meets_step_keeps_unit_id_law : UnitIdLaw yard := by
  have h : ∀ u, (yard.unit u).state ≠ .free → 0 = u := by
    intro u hu
    rw [yard_unit] at hu
    by_contra e
    rw [if_neg e] at hu
    exact hu rfl
  intro u v hu hv _
  rw [← h u hu, ← h v hv]

theorem test_meets_step_keeps_poll_law : PollLaw yard := by
  have e : yard.reg.pollQueue = [] := by decide +kernel
  refine ⟨by rw [e]; exact List.nodup_nil, fun u => ?_⟩
  rw [yard_unit, e]
  split <;> simp [UnitEntry.free]

/-! ## States that meet the premises of the other statements -/

theorem test_meets_step : yard.pending = [.slotStart] ∧ State.reset.pending = [] := ⟨rfl, rfl⟩

/-- The yard while RESETN is low. -/
def low : State := after .hardReset yard

theorem test_meets_resets : low.resetn = false ∧ yard.resetn = true ∧ Instr.slotStart ≠ .hardReset ∧
    Instr.slotStart ≠ .resetnRise ∧ ∀ level, Instr.slotStart ≠ .holdinChange level := by decide +kernel

/-- The yard with link 23 in the last exchange of a test on head 11. -/
def testing : State :=
  withLink 23 (fun l => { l with test := some ⟨100, 99, 2, 1#15⟩ }) (opened 23 ⟨11, 23, .four, 3⟩ .test (headIn 11 .on yard))

theorem test_meets_quay_hold : Ready testing ∧ holdInForce testing = false ∧
    holdInForce { testing with holdin := true } = true ∧ (testing.link 23).mode = .test ∧
    (testing.link 23).test = some ⟨100, 99, 2, 1#15⟩ ∧ (testing.link 0).mode ≠ .test :=
  ⟨ready_of (by decide +kernel), by decide +kernel⟩

/-- R100: the test is stored with the 99 exchanges done, aborted. -/
theorem test_hold_aborts_test : ((after (.holdinChange true) testing).link 23).testResult = some ⟨99, 2, true⟩ ∧
    ((after (.holdinChange true) testing).link 23).mode = .standby := by decide +kernel

theorem test_meets_frame_starts : yard.resetn = true ∧ yard.fs.now.frame ≠ 15 ∧ State.reset.fs.airStarted = false ∧
    inService (after .frameStart yard) 5 = false ∧ ∀ r ∈ table yard, r.place.head ≠ 5 := by decide +kernel

/-- R1, R2: the first frame start opens frame 0; frame 15 is followed by frame 0 of the next multiframe. -/
theorem test_frame_counters : (after .frameStart State.reset).fs.now = ⟨0#16, 0, 0⟩ ∧
    (after .frameStart yard).fs.now = ⟨5#16, 4, 0⟩ ∧
    nextFrame (at' ⟨0xFFFF#16, 15, 23⟩ yard) = ⟨0#16, 0, 0⟩ := by decide +kernel

/-- The yard at the end of multiframe 9 with a staged plan. -/
def boundary (p : Plan) (ready : Bool) : State :=
  let s := at' ⟨9#16, 15, 23⟩ yard
  { s with fs := { s.fs with staged := p, ready := ready } }

/-- The end of multiframe 9 with slot 23 still in progress: the burst of head 9's CONTENTION cell is garbled. -/
def contended : State :=
  (inSlot ⟨9#16, 15, 23⟩ 9 ⟨.contention, true, some ⟨.garbled, 40#8, []⟩, false⟩ (boundary Plan.default false)).setHead 9
    { HeadRecord.reset with state := .on, offered := 4, garbled := 1 }

theorem test_meets_boundary : (boundary Plan.default false).fs.airStarted = true ∧
    (boundary Plan.default false).fs.now.frame = 15 ∧ (boundary Plan.default false).hp.openSlot = none ∧
    contended.fs.airStarted = true ∧ contended.fs.now.frame = 15 ∧
    contended.hp.openSlot.map (·.time.mf) = some contended.fs.now.mf := by decide +kernel

/-- R42, R155: the slot still open counts towards the multiframe that ends, once: 4·2 > 4 raises the exponent. -/
theorem test_boundary_counts :
    let t := openMultiframe (shiftExchanges (advanceFrame contended))
    (t.head 9).garbledLast = 2 ∧ t.rep.exponent = 1 ∧ ((after .slotClose t).head 9).garbled = 0 := by decide +kernel

/-- `contended` before its return has come. -/
def awaiting : State :=
  (inSlot ⟨9#16, 15, 23⟩ 9 ⟨.contention, true, none, false⟩ (boundary Plan.default false)).setHead 9
    { HeadRecord.reset with state := .on, offered := 4, garbled := 1 }

/-- R42, R158: a garbled return taken between the boundary and the close of its slot counts towards the multiframe that
ended too, and the exponent and the beacon's are those of that count. -/
theorem test_late_return_counts :
    let t := openMultiframe (shiftExchanges (advanceFrame awaiting))
    let u := after .slotClose (after (.headReturn 9 9#16 15#8 23#8 2#8 40#8 []) t)
    (t.head 9).garbledLast = 1 ∧ t.rep.exponent = 0 ∧ (u.head 9).garbledLast = 2 ∧ (u.head 9).garbled = 0 ∧
      u.rep.lastGarbled = 2 ∧ u.rep.exponent = 1 ∧ u.fs.beacon.exponent = 1 := by decide +kernel

/-- 8.6.1: the six rows of the worked figures. -/
theorem test_exponent : nextExponent 2 1088 300 = 3 ∧ nextExponent 3 1088 280 = 4 ∧ nextExponent 4 1088 272 = 4 ∧
    nextExponent 4 1088 60 = 3 ∧ nextExponent 3 1088 68 = 3 ∧ nextExponent 3 0 0 = 3 := by decide

/-- Heads 0 and 2 in one group. -/
def tight : Plan := { Plan.default with headGroup := put Plan.default.headGroup 2 0 }

/-- Slot 4 of head 3, where link 0 has its reservation, is not crane-allowed. -/
def barred : Plan := { Plan.default with allowed := put Plan.default.allowed 3 0xFFFFEE#24 }

theorem test_meets_plan_validation :
    (∀ p, p = barred ∨ p = Plan.default →
      ∀ a b : HeadNo, a < b → p.headGroup.get a = p.headGroup.get b → a.1 + 3 ≤ b.1) ∧
    (boundary tight true).resetn = true ∧ (boundary tight true).fs.airStarted = true ∧
    (boundary tight true).fs.now.frame = 15 ∧ (boundary tight false).fs.ready = false ∧
    (∃ a b : HeadNo, a < b ∧ tight.headGroup.get a = tight.headGroup.get b ∧ b.1 < a.1 + 3) ∧
    (∀ r ∈ table (boundary Plan.default true), (Plan.default.allowed.get r.place.head).getLsbD r.place.slot.1 = true) ∧
    ∃ r ∈ table (boundary barred true), (barred.allowed.get r.place.head).getLsbD r.place.slot.1 = false := by
  refine ⟨?_, by decide +kernel⟩
  rintro p (rfl | rfl) <;> decide +kernel

/-- R12: the three results. -/
theorem test_plan_results : validatePlan (boundary tight true) 10#16 = .groupSpacing 10#16 0 2 ∧
    validatePlan (boundary barred true) 10#16 = .reservationConflict 10#16 0 ∧
    validatePlan (boundary Plan.default true) 10#16 = .applied 10#16 := by decide +kernel

/-- The yard with heads 2, 5, 7 and 8 in service besides. -/
def mapped : State := headIn 2 .on (headIn 5 .on (headIn 7 .draining (headIn 8 .on yard)))

theorem test_meets_map : TableLaw mapped ∧ mapped.fs.now.frame ≠ 15 ∧
    (∃ r ∈ table mapped, r.place.head = 3 ∧ r.place.slot = 4 ∧ due r.place 4 = true) ∧
    (∀ r ∈ table mapped, r.place.slot = 4 → due r.place 4 = true → r.place.head ≠ 2 ∧ dist r.place.head 2 = 1) ∧
    (∀ r ∈ table mapped, r.place.slot = 4 → due r.place 4 = true → dist r.place.head 5 = 2) ∧
    (∀ r ∈ table mapped, r.place.slot = 4 → due r.place 4 = true → 3 ≤ dist r.place.head 7 ∧ 3 ≤ dist r.place.head 8 ∧
      3 ≤ dist r.place.head 9) ∧
    (∀ h : HeadNo, h = 2 ∨ h = 5 ∨ h = 7 ∨ h = 8 ∨ h = 9 → inService (after .frameStart mapped) h = true) ∧
    ((after .frameStart mapped).head 7).state = .draining ∧ ((after .frameStart mapped).head 9).state = .on ∧
    mapped.fs.active.slotGroup.get 4 ≠ mapped.fs.active.headGroup.get 8 ∧
    mapped.fs.active.slotGroup.get 4 = mapped.fs.active.headGroup.get 9 ∧
    (after .frameStart mapped).fs.now.frame = 4 :=
  ⟨by unfold TableLaw; decide +kernel, by decide +kernel⟩

/-- R19: head 9 polls the unit of the poll queue that it serves in its first eligible cell, slot 1 of group 0; unit 1023
is served on head 9. -/
def polling : State :=
  let s := mapped.setUnit 1023 { UnitEntry.free with state := .polling, unitId := 88#32, serving := some 9 }
  { s with reg := { s.reg with pollQueue := [1023] } }

theorem test_meets_poll_choice : eligible (after .frameStart polling) 4 9 1 = true ∧
    eligible (after .frameStart polling) 4 9 4 = true ∧ (after .frameStart polling).cell 9 1 = .poll 1023 88#32 ∧
    (after .frameStart polling).cell 9 4 = .contention := by decide +kernel

/-- The yard with one cell of each kind in slot 4, head 11 out of service. -/
def celled : State :=
  let s := (((((yard.setCell 0 4 .quiet).setCell 1 4 .off).setCell 2 4 .beacon).setCell 4 4 (.listen 0)).setCell 6 4
    (.poll 1023 77#32)).setCell 9 4 .contention
  let s := s.setCell 10 4 (.crane 23 .primary)
  s.setHead 11 { s.head 11 with outOfService := true }

theorem test_meets_slot_starts : celled.resetn = true ∧ celled.fs.airStarted = true ∧ celled.fs.slotStarted = false ∧
    celled.hp.openSlot = none ∧ celled.fs.now.slot = 4 ∧ celled.cell 0 4 = .quiet ∧ celled.cell 1 4 = .off ∧
    celled.cell 2 4 = .beacon ∧ celled.cell 4 4 = .listen 0 ∧ celled.cell 6 4 = .poll 1023 77#32 ∧
    celled.cell 9 4 = .contention ∧ celled.cell 3 4 = .crane 0 .primary ∧ (celled.link 0).mode ≠ .closed ∧
    celled.cell 10 4 = .crane 23 .primary ∧ (celled.link 23).mode = .closed ∧
    (celled.head 11).outOfService = true ∧ (celled.head 9).outOfService = false ∧
    State.reset.fs.airStarted = false ∧ (after .slotStart yard).fs.slotStarted = true ∧
    (after .slotStart yard).hp.openSlot ≠ none := by decide +kernel

/-- The yard at the start of slot 4, link 0 and the state of its exchange changed. -/
def bursting (f : Link → Link) (e : Exchange := Exchange.empty) : State := (withLink 0 f yard).setExch 0 e

/-- A link in TEST with its pattern register at all ones. -/
def tested (l : Link) : Link := { l with mode := .test, test := some ⟨100, 5, 2, 0x7FFF#15⟩ }

/-- The place of the cell, whatever the link and its exchange are, and the premise of each content. -/
theorem test_meets_crane_burst :
    (∀ g r, g ≠ 3 → yard.cell g yard.fs.now.slot ≠ .crane 0 r) ∧
    (∀ y r, y ≠ 0 → ∀ g, yard.cell g yard.fs.now.slot ≠ .crane y r) ∧
    (yard.fs.slotStarted = false ∧ yard.hp.openSlot = none ∧ (yard.head 3).outOfService = false ∧
      yard.cell 3 yard.fs.now.slot = .crane 0 .primary ∧ (yard.link 0).mode = .service ∧ (yard.exch 0).consumed = none ∧
      holdInForce yard = false ∧ holdInForce { yard with holdin := true } = true ∧
      ((bursting fun l => { l with health := .lost }).link 0).health = .lost ∧
      ((bursting fun l => { l with health := .recovering }).link 0).health = .recovering ∧
      ((bursting fun l => { l with mode := .standby }).link 0).mode = .standby ∧
      (yard.link 0).held = none ∧ (yard.link 0).list = [] ∧
      ((bursting id { Exchange.empty with consumed := some true }).exch 0).consumed = some true ∧
      ((bursting fun l => { l with list := [entry 7#16] }).link 0).list = [entry 7#16] ∧
      ((bursting fun l => { l with held := some (entry 7#16) }).link 0).held = some (entry 7#16) ∧
      ((bursting tested).link 0).test = some ⟨100, 5, 2, 0x7FFF#15⟩ ∧ ((bursting tested).exch 0).pattern = none ∧
      ((bursting tested { Exchange.empty with pattern := some 9#64 }).exch 0).pattern = some 9#64 ∧
      (yard.fs.now.frame.1 ≠ (yard.link 0).phase) ∧
      ((bursting fun l => { l with phase := 3 }).exch 0).started = []) := by
  refine ⟨?_, ?_, by decide +kernel⟩
  · intro g r
    cases r <;> revert g <;> decide +kernel
  · intro y r
    cases r <;> revert y <;> decide +kernel

/-- R98, R99: behind a register at all ones come 15 ones, 14 zeros, a one, 13 zeros, two ones, 12 zeros, 101 and zeros:
each bit the exclusive-or of the bits 15 and 14 places before it. -/
theorem test_first_pattern : ((after .slotStart (bursting tested)).exch 0).pattern = some
    0b1111111111111110000000000000010000000000000110000000000001010000#64 := by decide +kernel

/-- R87, R90: the entry of a list of one goes to the burst, and LIST-LOW is raised at low mark 0. -/
theorem test_command_burst :
    let t := after .slotStart (withLink 0 (fun l => { l with list := [entry 7#16] }) yard)
    (t.link 0).list = [] ∧ (t.link 0).held = some (entry 7#16) ∧ flagSet t .listLow = true ∧
    (t.hp.orders.get 3).map (fun o => ((o.burst.drop 8).take 1, (o.burst.drop 12).take 2)) =
      some ([4#8], [0#8, 7#8]) := by decide +kernel

/-- The yard in slot 22 of frame 3, with link 7 in SERVICE alone on head 4 and its cell awaiting a return. -/
def failing (sl : SlotNo) : State :=
  let s := (opened 7 ⟨4, sl, .one, 0⟩ .service (at' ⟨5#16, 3, sl⟩ yard)).setCell 4 sl (.crane 7 .primary)
  let s := inSlot ⟨5#16, 3, sl⟩ 4 ⟨.crane 7 .primary, true, none, false⟩ s
  { s with fs := { s.fs with slotStarted := true } }

/-- The slot in progress of `failing`. -/
def failingSlot (sl : SlotNo) : OpenSlot :=
  { emptySlot ⟨5#16, 3, sl⟩ with entries := put (emptySlot ⟨5#16, 3, sl⟩).entries 4 ⟨.crane 7 .primary, true, none, false⟩ }

theorem test_meets_slot_closes : yard.hp.openSlot = none ∧
    ∀ sl : SlotNo, sl = 22 ∨ sl = 23 → (failing sl).resetn = true ∧
      (failing sl).hp.openSlot = some (failingSlot sl) ∧ (failingSlot sl).stale = false ∧
      (failingSlot sl).time = (failing sl).fs.now ∧ ((failing sl).head 3).statusSeen = false := by
  refine ⟨by decide +kernel, ?_⟩
  rintro sl (rfl | rfl) <;> decide +kernel

/-- Slot 23 closes after the next frame start, with head 9 DRAINING at a timer, its status not seen, head 3 with its
status seen, and link 7 served on head 9 by a DUAL's target. -/
def closing (timer : Nat) : State :=
  let s := (failing 23).setHead 9 { HeadRecord.reset with state := .draining, drainTimer := timer }
  let s := s.setHead 3 { s.head 3 with statusSeen := true, missed := 2 }
  { s with hp := { s.hp with openSlot := some { failingSlot 23 with stale := true } } }

theorem test_meets_drain_timers : ∀ n, n = 1 ∨ n = 2 →
    ((closing n).hp.openSlot.map (·.stale)) = some true ∧ ((closing n).head 3).statusSeen = true ∧
    ((closing n).head 9).statusSeen = false ∧ ((closing n).head 9).missed < 2 ∧ ((closing n).head 9).state = .draining ∧
    naming (after .slotClose (closing n)) 9 ≠ [] ∧ ((closing n).head 9).drainTimer = n ∧
    ((closing n).head 6).missed = 2 ∧ ((closing n).head 6).statusSeen = false := by
  rintro n (rfl | rfl) <;> decide +kernel

/-- R27, R33, R35: a timer of 2 falls to 1, one of 1 ends the drain; the third miss makes head 6 ABSENT. -/
theorem test_drain_timers : ((after .slotClose (closing 2)).head 9).drainTimer = 1 ∧
    ((after .slotClose (closing 1)).head 9).state = .on ∧ ((after .slotClose (closing 1)).head 6).state = .absent := by
  decide +kernel

theorem test_meets_failed_exchange : (∀ g r, g ≠ 4 → ((failingSlot 22).entries.get g).cell ≠ .crane 7 r) ∧
    (∀ g sl r, (failing 22).cell g sl = .crane 7 r → g = 4 ∧ sl = 22) ∧ (failing 22).fs.slotStarted = true ∧
    ((failingSlot 22).entries.get 4).cell = .crane 7 .primary ∧
    ((failingSlot 22).entries.get 4).awaited = true ∧ ((failingSlot 22).entries.get 4).ret = none ∧
    ((failing 22).link 7).mode = .service ∧ ((failing 22).link 7).health = .good ∧
    ((failing 22).link 7).score ≤ 87 ∧ (failing 22).record 7 = some (Handover.atOpen 4) ∧
    ((failing 22).exch 7).opened = false ∧ ((failing 22).exch 7).best = none ∧
    ((failing 22).exch 7).settled = false := by
  refine ⟨?_, ?_, by decide +kernel⟩
  · intro g r
    cases r <;> revert g <;> decide +kernel
  · intro g sl r
    cases r <;> revert g sl <;> decide +kernel

theorem test_failed_exchange : ((after .slotClose (failing 22)).link 7).score = 8 ∧
    ((after .slotClose (failing 22)).link 7).outcomes = ⟨1, 1, 0, 0, 0⟩ := by decide +kernel

/-- An up burst of a terminal with an echo, e-stop set and alarm code 5. -/
def upBytes (terminal : Word32) (echo : Word16) : List Byte :=
  withCheck (be32 terminal ++ [1#8, 5#8, 0#8, 9#8, 0#8, 8#8, 0#8, 7#8] ++ be16 echo ++ List.replicate 8 0#8)

/-- The status of that burst. -/
def upStatus (echo : Word16) : CraneStatus := ⟨true, false, 5#8, 9#16, 8#16, 7, echo⟩

/-- A return that brings a burst. -/
def brings (bytes : List Byte) : Option Ret := some ⟨.decoded, 90#8, bytes⟩

/-- A case of the exchange of link 7: its return, fault score, health, pending CRANE ALARM notices and dual count, and
the notices waiting. -/
structure Case where
  ret : Option Ret
  score : Nat := 0
  health : Health := .good
  pendingAlarms : Nat := 0
  dual : Nat := 6
  notices : List Message := []

/-- The exchange of link 7, in DUAL, on head 4 in slot 22; the check of its down burst is 1234H. -/
def returning (c : Case) : State :=
  let s := withLink 7 (fun l => { l with score := c.score, health := c.health, pendingAlarms := c.pendingAlarms }) (failing 22)
  let s := inSlot ⟨5#16, 3, 22⟩ 4 ⟨.crane 7 .primary, true, c.ret, false⟩ s
  let s := s.setRecord 7 (some { Handover.atOpen 4 with state := .dual, dual := c.dual })
  let s := s.setExch 7 { Exchange.empty with started := [⟨4, 22, .primary, 0x1234#16⟩], targetStarted := true }
  { s with cp := { s.cp with notices := c.notices } }

/-- The slot in progress of `returning`. -/
def returningSlot (c : Case) : OpenSlot :=
  { emptySlot ⟨5#16, 3, 22⟩ with
    entries := put (emptySlot ⟨5#16, 3, 22⟩).entries 4 ⟨.crane 7 .primary, true, c.ret, false⟩ }

/-- A cell but the one put into an empty slot is OFF. -/
theorem others_off (t : Time) (h g : HeadNo) (e : Entry) (hg : g ≠ h) :
    ((put (emptySlot t).entries h e).get g).cell = .off := by
  rw [get_put, if_neg (Ne.symm hg)]
  simp [emptySlot, Vector.get_eq_getElem]

/-- No later slot of the frame holds a CRANE cell of the link: a check of all cells. -/
theorem lastCell_of {s : State} {x : LinkNo} {top : SlotNo}
    (k : ∀ g sl, isCraneOf x (s.cell g sl) = true → sl ≤ top) (g : HeadNo) (sl : SlotNo) (r : Role)
    (e : s.cell g sl = .crane x r) : sl ≤ top :=
  k g sl (by rw [e]; exact beq_self_eq_true x)

theorem failing_last : ∀ g sl, isCraneOf 7 ((failing 22).cell g sl) = true → sl ≤ (22 : SlotNo) := by decide +kernel

/-- `returning` with the record of link 7 changed. -/
def settling (c : Case) (f : Link → Link) : State := withLink 7 f (returning c)

theorem settling_lastCell (c : Case) (f : Link → Link) :
    LastCraneCell (settling c f) (returningSlot c) 4 7 .primary where
  only := ⟨⟨rfl, rfl, ⟨rfl, rfl⟩, ⟨(by decide : 0 < 22), (by decide : 22 < 23)⟩, fun g hg => .inr (others_off _ 4 g _ hg)⟩,
    ⟨rfl, rfl⟩⟩
  started := rfl
  cell := rfl
  last := lastCell_of (s := failing 22) failing_last
  fresh := ⟨rfl, rfl⟩

theorem returning_oneCell (c : Case) (h : c.health = .good ∨ c.health = .warned ∨ c.health = .degraded) :
    OneCraneCell (returning c) (returningSlot c) 4 7 .primary where
  toLastCraneCell := settling_lastCell c id
  mode := .inr rfl
  health := h

/-- A success and the four failures, at the scores where the health changes. -/
theorem test_meets_exchange_outcomes :
    (∀ n hl p d m, Heard (returning ⟨brings (upBytes 107#32 0x1234#16), n, hl, p, d, m⟩)
      (returningSlot ⟨brings (upBytes 107#32 0x1234#16), n, hl, p, d, m⟩) 4 7 ⟨107#32, upStatus 0x1234#16, 0#64⟩) ∧
    (∀ n hl d, Failed (returning ⟨none, n, hl, 0, d, []⟩) (returningSlot ⟨none, n, hl, 0, d, []⟩) 4 7 .noReply) ∧
    Failed (returning ⟨brings [0#8], 88, .good, 0, 6, []⟩) (returningSlot ⟨brings [0#8], 88, .good, 0, 6, []⟩) 4 7
      .badCheck ∧
    Failed (returning ⟨brings (upBytes 108#32 0x1234#16), 120, .warned, 0, 7, []⟩)
      (returningSlot ⟨brings (upBytes 108#32 0x1234#16), 120, .warned, 0, 7, []⟩) 4 7 .wrongTerminal ∧
    Failed (returning ⟨brings (upBytes 107#32 0#16), 0, .good, 0, 6, []⟩)
      (returningSlot ⟨brings (upBytes 107#32 0#16), 0, .good, 0, 6, []⟩) 4 7 .echoMismatch := by
  have hc : ∀ c, ((returning c).exch 7).started = [⟨4, 22, .primary, 0x1234#16⟩] := fun _ => rfl
  have ht : ∀ c, ((returning c).link 7).terminal = 107#32 := fun _ => rfl
  have hr : readUp (upBytes 107#32 0x1234#16) = some ⟨107#32, upStatus 0x1234#16, 0#64⟩ := by decide +kernel
  refine ⟨fun n hl p d m => ⟨⟨90#8, _, rfl, hr⟩, rfl, ⟨⟨4, 22, .primary, 0x1234#16⟩, by simp [hc], rfl, rfl⟩, ?_⟩,
    fun n hl d => ?_, ⟨90#8, _, rfl, by decide +kernel⟩,
    ⟨90#8, _, ⟨108#32, upStatus 0x1234#16, 0#64⟩, rfl, by decide +kernel, ?_⟩,
    ⟨90#8, _, ⟨107#32, upStatus 0#16, 0#64⟩, rfl, by decide +kernel, rfl, ?_⟩⟩
  · intro c h; simp [hc] at h; subst h; intros; rfl
  · intro level bytes e; cases e
  · rw [ht]; decide
  · intro c h; simp [hc] at h; subst h; intros; decide

/-- R102: a WARNED link at 96 returns to GOOD at 95; 248 + 8 is capped at 255, LOST. -/
theorem test_exchange_outcomes :
    let t := after .slotClose (returning ⟨brings (upBytes 107#32 0x1234#16), 96, .warned, 0, 6, []⟩)
    let u := after .slotClose (returning ⟨none, 248, .degraded, 0, 7, []⟩)
    (t.link 7).health = .good ∧ (t.link 7).pendingAlarms = 1 ∧ (u.link 7).health = .lost ∧ u.cle.qstop = true := by
  decide +kernel

/-- R96: at two pending the notice is not made; a full outbound queue drops it. -/
theorem test_crane_alarm :
    let t := after .slotClose (returning ⟨brings (upBytes 107#32 0x1234#16), 0, .good, 2, 6, []⟩)
    let u := after .slotClose (returning ⟨brings (upBytes 107#32 0x1234#16), 0, .good, 1, 6, List.replicate 64 .ready⟩)
    (t.link 7).alarmDrops = 1 ∧ (u.link 7).pendingAlarms = 1 ∧ u.cp.noticeDrops = 1 := by decide +kernel

/-- The up burst heard, and its absence. -/
def heard : Case := { ret := brings (upBytes 107#32 0x1234#16) }
def unheard : Case := { ret := none }

/-- A link in TEST after `done` of 100 exchanges. -/
def tests (done score : Nat) (l : Link) : Link :=
  { l with mode := .test, test := some ⟨100, done, 2, 1#15⟩, score := score, health := healthOf score }

/-- A success and a failure of a link that is LOST, RECOVERING or in TEST. -/
theorem test_meets_other_exchanges :
    (∀ f, (∀ l, (f l).terminal = l.terminal) → EndsIn (settling heard f) (returningSlot heard) 4 7 .success
      (some (upStatus 0x1234#16)) (some 0#64)) ∧
    (∀ f, EndsIn (settling unheard f) (returningSlot unheard) 4 7 .noReply ((settling unheard f).link 7).latest none) ∧
    (∀ c f, ∀ w, (settling c f).record 7 = some w → w.state = .candidate → w.forced = false) ∧
    (((settling heard fun l => { l with health := .lost }).link 7).health = .lost ∧
      ((settling heard fun l => { l with health := .recovering }).link 7).recovery < 15 ∧
      15 ≤ ((settling heard fun l => { l with health := .recovering, recovery := 15 }).link 7).recovery ∧
      ((settling unheard fun l => { l with health := .recovering }).link 7).health = .recovering ∧
      ((settling heard (tests 99 0)).link 7).test = some ⟨100, 99, 2, 1#15⟩ ∧
      ((settling heard (tests 5 8)).link 7).mode = .test ∧ ((settling heard (tests 5 8)).exch 7).firstUp = none ∧
      ((settling unheard (tests 5 247)).link 7).health = .degraded ∧ min 255 (247 + 8) = 255) := by
  refine ⟨fun f hf => ?_, fun f => ?_, fun c f w e => ?_, by decide +kernel⟩
  · have h := test_meets_exchange_outcomes.1 0 .good 0 6 []
    have ht : ((settling heard f).link 7).terminal = 107#32 := (hf _).trans rfl
    exact .inl ⟨_, ⟨h.1, ht.symm, h.2.2.1, h.2.2.2⟩, rfl, rfl, rfl⟩
  · exact .inr ⟨fun _ _ e => (nomatch e), rfl, rfl, rfl⟩
  · cases e
    intro k
    cases k

/-- R99, R103, R104: the last exchange of a test, the sixteenth success of a recovery, and a success of a LOST link. -/
theorem test_other_exchanges :
    ((after .slotClose (settling unheard (tests 99 0))).link 7).testResult = some ⟨100, 66, false⟩ ∧
    ((after .slotClose (settling heard fun l => { l with health := .recovering, recovery := 15 })).link 7).mode = .standby ∧
    ((after .slotClose (settling heard fun l => { l with health := .lost, score := 255 })).link 7).score = 255 := by
  decide +kernel

/-- The yard in slot 8, the burst of link 1's TARGET cell on head 9 having come in. -/
def completing : State :=
  let s := at' ⟨5#16, 3, 8⟩ yard
  let s := inSlot ⟨5#16, 3, 8⟩ 9 ⟨.crane 1 .target, true, brings (upBytes 101#32 0x1234#16), false⟩ s
  let s := s.setExch 1 { Exchange.empty with started := [⟨9, 8, .target, 0x1234#16⟩], targetStarted := true }
  { s with fs := { s.fs with slotStarted := true } }

/-- The slot in progress of `completing`. -/
def completingSlot : OpenSlot :=
  { emptySlot ⟨5#16, 3, 8⟩ with
    entries := put (emptySlot ⟨5#16, 3, 8⟩).entries 9
      ⟨.crane 1 .target, true, brings (upBytes 101#32 0x1234#16), false⟩ }

theorem test_meets_completion : OneCraneCell completing completingSlot 9 1 .target ∧
    Heard completing completingSlot 9 1 ⟨101#32, upStatus 0x1234#16, 0#64⟩ ∧
    (completing.record 1).map (·.state) = some .dual ∧ (completing.exch 1).targetStarted = true ∧
    targetHead completing 1 = some 9 := by
  refine ⟨⟨⟨⟨⟨rfl, rfl, ⟨rfl, rfl⟩, ⟨(by decide : 0 < 8), (by decide : 8 < 23)⟩,
      fun g hg => .inr (others_off _ 9 g _ hg)⟩, ⟨rfl, rfl⟩⟩, rfl, rfl, lastCell_of (by decide +kernel), ⟨rfl, rfl⟩⟩,
      .inl rfl, .inl rfl⟩,
    ⟨⟨90#8, _, rfl, by decide +kernel⟩, rfl, ⟨⟨9, 8, .target, 0x1234#16⟩, ?_, rfl, rfl⟩, ?_⟩, by decide +kernel⟩
  · exact List.mem_singleton.mpr rfl
  · intro c h _ _
    rw [show (completing.exch 1).started = [⟨9, 8, .target, 0x1234#16⟩] from rfl, List.mem_singleton] at h
    subst h
    rfl

/-- R111: a success on the TARGET cell completes the handover. -/
theorem test_completion : ((after .slotClose completing).resv 1).primary = some ⟨9, 8, .two, 1⟩ ∧
    ((after .slotClose completing).record 1).map (fun w => (w.centre, w.completed)) = some (some 9, 1) := by decide +kernel

theorem test_meets_return : (failingSlot 22).time.mf = 5#16 ∧ (failingSlot 22).time.frame.1 = (3#8).toNat ∧
    (failingSlot 22).time.slot.1 = (22#8).toNat ∧ (failingSlot 22).time.slot.1 ≠ (23#8).toNat ∧
    ((failingSlot 22).entries.get 5).awaited = false ∧ ((failingSlot 22).entries.get 4).outOfService = false ∧
    ((markEntry 4 (failingSlot 22)).entries.get 4).outOfService = true ∧
    ((markEntry 4 (failingSlot 22)).entries.get 4).awaited = true ∧
    ((markEntry 4 (failingSlot 22)).entries.get 4).ret = none := by decide +kernel

/-- R39: a second return of one slot is late. -/
theorem test_second_return_is_late :
    let r := Instr.headReturn 4 5#16 3#8 22#8 2#8 90#8 []
    ((after r (after r (failing 22))).head 4).lateReturns = 1 := by decide +kernel

theorem test_meets_status_record : (yard.head 3).state ≠ .absent ∧ inService yard 3 = true ∧
    (yard.head 3).serial ≠ some 9#32 ∧ (yard.head 3).statusSeen = false ∧
    ((headIn 11 .off yard).head 11).state = .off ∧ inService (headIn 11 .off yard) 11 = false ∧
    ((headIn 11 .fault yard).head 11).state = .fault ∧ inService (headIn 11 .fault yard) 11 = false := by
  decide +kernel

theorem test_meets_head_comes_up : (yard.head 11).state = .absent ∧ (yard.head 11).statusSeen = false ∧
    (yard.head 11).linkUp = 0 ∧
    ((yard.setHead 11 { yard.head 11 with linkUp := 1 }).head 11).linkUp = 1 := by decide +kernel

theorem test_meets_head_is_lost : HeadLaw yard ∧ inService yard 6 = true ∧ (yard.head 6).statusSeen = false ∧
    2 ≤ (yard.head 6).missed ∧ (yard.head 6).state = .draining ∧
    ((yard.setHead 11 { HeadRecord.reset with state := .off, missed := 2 }).head 11).state = .off ∧
    ((yard.setHead 11 { HeadRecord.reset with state := .fault, missed := 2 }).head 11).missed = 2 :=
  ⟨test_meets_step_keeps_head_law, by decide +kernel⟩

/-- What `IsChoice` says of a head is a test of its effective score. -/
theorem isChoice_iff {s : State} {x : LinkNo} {h g : HeadNo} {e : Int} : IsChoice s x h g e ↔
    (if Machine.dist h g = 1 ∧ (s.head g).state = .on then effectiveScore s x g else none) = some e := by
  unfold IsChoice
  rw [score_iff]
  split <;> simp_all

/-- The yard with head 4 qualifying for link 0, one evaluation short of the threshold; `set` is head 4's crane-allowed
set, `m` the mode of link 0. -/
def qualified (set : BitVec 24) (m : Mode := .service) : State :=
  let s := withRecord 0 (fun w => { w with
    centreQ := some 1000, rightQ := some 1096, candidate := some 4, trigger := 7, state := .candidate })
    (withLink 0 (fun l => { l with mode := m, test := if m = .test then some ⟨100, 5, 2, 1#15⟩ else none }) yard)
  { s with fs := { s.fs with active := { s.fs.active with allowed := put s.fs.active.allowed 4 set } } }

/-- Head 4 is the only choice of link 0 on head 3, with and without link 0's own reservation. -/
theorem qualified_choice (set : BitVec 24) (m : Mode) (held : Bool) (g : HeadNo) (e : Int)
    (h : IsChoice (if held then qualified set m else withoutLink (qualified set m) 0) 0 3 g e) : g = 4 ∧ e = 1096 := by
  have k : ∀ g : HeadNo, (if Machine.dist 3 g = 1 ∧ ((qualified 0#24).head g).state = .on then effectiveScore (qualified 0#24) 0 g else none) =
      if g = 4 then some 1096 else none := by decide +kernel
  have l : ∀ g : HeadNo, (if Machine.dist 3 g = 1 ∧ ((qualified 0#24).head g).state = .on then
      effectiveScore (withoutLink (qualified 0#24) 0) 0 g else none) = if g = 4 then some 1096 else none := by
    decide +kernel
  rw [isChoice_iff] at h
  cases held
  · have := l g
    rw [show (if Machine.dist 3 g = 1 ∧ ((qualified 0#24).head g).state = .on then
      effectiveScore (withoutLink (qualified 0#24) 0) 0 g else none) = some e from h] at this
    split at this <;> simp_all
  · have := k g
    rw [show (if Machine.dist 3 g = 1 ∧ ((qualified 0#24).head g).state = .on then
      effectiveScore (qualified 0#24) 0 g else none) = some e from h] at this
    split at this <;> simp_all

theorem test_meets_choice : FirstChoice (qualified 0#24) 0 3 4 ∧ Chosen (qualified 0xFFFFFE#24) 0 3 ⟨4, 1, .one, 0⟩ ∧
    Chosen (withoutLink (qualified 0xFFFFFE#24) 0) 0 3 ⟨4, 1, .one, 0⟩ ∧ NoChoice (qualified 0#24) 0 3 ∧
    (∀ m, m = .service ∨ m = .test → NoChoice (withoutLink (qualified 0#24 m) 0) 0 3) ∧ ∀ g, ¬ FirstChoice yard 0 3 g := by
  have top : ∀ set (held : Bool) k f, IsChoice (if held then qualified set else withoutLink (qualified set) 0) 0 3 k f →
      f < 1096 ∨ f = 1096 ∧ 4 ≤ k := fun set held k f h => by
    obtain ⟨rfl, rfl⟩ := qualified_choice set .service held k f h
    exact .inr ⟨rfl, Nat.le_refl _⟩
  refine ⟨⟨1096, isChoice_iff.mpr (by decide +kernel), fun k f => top 0#24 true k f⟩,
    ⟨targetFound_iff.mpr (by decide +kernel), 1096, isChoice_iff.mpr (by decide +kernel),
      fun k f h _ => top 0xFFFFFE#24 true k f h⟩,
    ⟨targetFound_iff.mpr (by decide +kernel), 1096, isChoice_iff.mpr (by decide +kernel),
      fun k f h _ => top 0xFFFFFE#24 false k f h⟩, ?_, ?_, ?_⟩
  · intro g e h
    obtain ⟨rfl, -⟩ := qualified_choice 0#24 .service true g e h
    exact noTarget_iff.mpr (by decide +kernel)
  · rintro m hm g e h
    obtain ⟨rfl, -⟩ := qualified_choice 0#24 m false g e h
    rcases hm with rfl | rfl <;> exact noTarget_iff.mpr (by decide +kernel)
  · rintro g ⟨e, h, -⟩
    have k : ∀ g : HeadNo, (if Machine.dist 3 g = 1 ∧ (yard.head g).state = .on then effectiveScore yard 0 g else none) = none := by
      decide +kernel
    rw [isChoice_iff, k g] at h
    cases h

/-- A kept result of a DUAL from a DRAINING head onto head `h`: a check of all links. -/
theorem noneSettles_of {s : State} {h : HeadNo} (k : ∀ z, targetHead s z = some h → (s.exch z).best = none) :
    NoneSettles s h := fun z _ hz _ _ => k z hz

/-- The close of slot 4, in which link 0's CRANE cell on head 3 brought no burst but level code 62; `right` is head 4's
filtered quality. -/
def evaluating (set : BitVec 24) (trigger score : Nat) (right : Option Nat) : State :=
  let s := withRecord 0 (fun w => { w with trigger := trigger, rightQ := right })
    (withLink 0 (fun l => { l with score := score, health := healthOf score }) (qualified set))
  let s := inSlot ⟨5#16, 3, 4⟩ 3 ⟨.crane 0 .primary, true, some ⟨.garbled, 62#8, []⟩, false⟩ s
  { s with fs := { s.fs with slotStarted := true } }

/-- The slot in progress of `evaluating`. -/
def evaluatingSlot : OpenSlot :=
  { emptySlot ⟨5#16, 3, 4⟩ with
    entries := put (emptySlot ⟨5#16, 3, 4⟩).entries 3 ⟨.crane 0 .primary, true, some ⟨.garbled, 62#8, []⟩, false⟩ }

theorem evaluating_oneCell (set : BitVec 24) (trigger score : Nat) (right : Option Nat) (h : score ≤ 254) :
    OneCraneCell (evaluating set trigger score right) evaluatingSlot 3 0 .primary where
  only := ⟨⟨rfl, rfl, ⟨rfl, rfl⟩, ⟨(by decide : 0 < 4), (by decide : 4 < 23)⟩, fun g hg => .inr (others_off _ 3 g _ hg)⟩,
    ⟨rfl, rfl⟩⟩
  started := rfl
  cell := rfl
  last := lastCell_of (s := qualified set) (show ∀ g sl, isCraneOf 0 (yard.cell g sl) = true → sl ≤ (4 : SlotNo) by
    decide +kernel)
  fresh := ⟨rfl, rfl⟩
  mode := .inr rfl
  health := by
    change healthOf score = _ ∨ healthOf score = _ ∨ healthOf score = _
    unfold healthOf
    repeat' split
    all_goals simp

/-- `evaluating` after the measurement, which takes head 3's quality from 1000 to 999. -/
def measuredThen (set : BitVec 24) (trigger : Nat) (right : Option Nat) : State :=
  withRecord 0 (measured 3 62 3) (evaluating set trigger 0 right)

/-- The premises of the evaluation: no qualifier, one short of the threshold, one that reaches it, a LOST link. -/
theorem test_meets_evaluation : Qualifier (measuredThen 0#24 3 (some 1096)) 0 3 4 ∧
    Qualifier (measuredThen 0#24 7 (some 1096)) 0 3 4 ∧ (∀ q, ¬ Qualifier (measuredThen 0#24 7 none) 0 3 q) ∧
    (∃ e, Score (measuredThen 0#24 7 none) 0 3 e) ∧ TargetFound (evaluating 0xFFFFFE#24 7 0 (some 1096)) 0 4 ⟨4, 1, .one, 0⟩ ∧
    NoTarget (evaluating 0#24 7 0 (some 1096)) 0 4 ∧
    (∀ e, ¬ Score (withRecord 0 (fun w => { w with centre := some 9 }) (evaluating 0#24 7 0 none)) 0 3 e) ∧
    (inService (evaluating 0#24 7 0 none) 3 = true ∧ servingHead (evaluating 0#24 7 0 none) 0 = some 3 ∧
      ((evaluating 0#24 7 0 none).record 0).map (fun w => (w.state, w.forced, w.candidate)) =
        some (.candidate, false, some 4) ∧
      ((evaluating 0#24 7 0 none).record 0).map (measured 3 62 3) = (measuredThen 0#24 7 none).record 0 ∧
      levelOf (evaluatingSlot.entries.get 3) = 62 ∧
      ((after .slotClose (evaluating 0#24 7 247 (some 1096))).link 0).health = .lost ∧
      ((after .slotClose (evaluating 0#24 7 120 (some 1096))).link 0).health = .degraded) := by
  refine ⟨qualifier_iff.mpr (by decide +kernel), qualifier_iff.mpr (by decide +kernel), fun q h => ?_,
    ⟨999, score_iff.mpr (by decide +kernel)⟩, targetFound_iff.mpr (by decide +kernel), noTarget_iff.mpr (by decide +kernel),
    fun e h => ?_, by decide +kernel⟩
  · have n : qualifier (measuredThen 0#24 7 none) 0 3 = none := by decide +kernel
    rw [qualifier_iff, n] at h
    cases h
  · have n : effectiveScore (withRecord 0 (fun w => { w with centre := some 9 }) (evaluating 0#24 7 0 none)) 0 3 = none := by
      decide +kernel
    rw [score_iff, n] at h
    cases h

/-- R49, R56, R109: the level code 62 takes 1000 to 999; the eighth evaluation for head 4 enters DUAL; without head 4's
quality the link is SETTLED. -/
theorem test_evaluation :
    ((after .slotClose (evaluating 0xFFFFFE#24 7 0 (some 1096))).record 0).map (fun w => (w.state, w.centreQ)) =
      some (.dual, some 999) ∧
    ((after .slotClose (evaluating 0#24 7 0 none)).record 0).map (fun w => (w.state, w.trigger)) =
      some (.settled, 0) := by decide +kernel

/-- `evaluating` with head 3 DRAINING and link 0 forced; `shared` puts link 7 on head 3 too. -/
def attempting (set : BitVec 24) (score : Nat) (right : Option Nat) (shared : Bool := false) : State :=
  let s := (withRecord 0 (fun w => { w with forced := true }) (evaluating set 7 score right)).setHead 3
    { HeadRecord.reset with state := .draining, drainTimer := 9 }
  if shared then opened 7 ⟨3, 9, .one, 0⟩ .service s else s

theorem attempting_lastCell (set : BitVec 24) (score : Nat) (right : Option Nat) (shared : Bool) :
    LastCraneCell (attempting set score right shared) evaluatingSlot 3 0 .primary := by
  cases shared
  all_goals exact ⟨⟨⟨rfl, rfl, ⟨rfl, rfl⟩, ⟨(by decide : 0 < 4), (by decide : 4 < 23)⟩,
    fun g hg => .inr (others_off _ 3 g _ hg)⟩, ⟨rfl, rfl⟩⟩, rfl, rfl,
    lastCell_of (s := qualified set) (show ∀ g sl, isCraneOf 0 (yard.cell g sl) = true → sl ≤ (4 : SlotNo) by
      decide +kernel), ⟨rfl, rfl⟩⟩

/-- Head 4 is the only choice of the attempt, and none where it has no valid quality. -/
theorem attempting_choice (set : BitVec 24) {right : Option Nat} (hr : right = none ∨ right = some 1096) (g : HeadNo)
    (e : Int) (h : IsChoice (attempting set 0 right) 0 3 g e) : g = 4 ∧ e = 1096 ∧ right = some 1096 := by
  have k : ∀ g : HeadNo, (if Machine.dist 3 g = 1 ∧ ((attempting 0#24 0 right).head g).state = .on then
      effectiveScore (attempting 0#24 0 right) 0 g else none) =
        if g = 4 ∧ right = some 1096 then some 1096 else none := by
    rcases hr with rfl | rfl <;> decide +kernel
  rw [isChoice_iff] at h
  have := k g
  rw [show (if Machine.dist 3 g = 1 ∧ ((attempting 0#24 0 right).head g).state = .on then
      effectiveScore (attempting 0#24 0 right) 0 g else none) = some e from h] at this
  split at this <;> simp_all

/-- The attempt at the settlement: a target, a blocked choice, no choice at all, and a link that the outcome makes LOST,
alone on the head and not. -/
theorem test_meets_settled_attempt : Chosen (attempting 0xFFFFFE#24 0 (some 1096)) 0 3 ⟨4, 1, .one, 0⟩ ∧
    NoChoice (attempting 0#24 0 (some 1096)) 0 3 ∧ FirstChoice (attempting 0#24 0 (some 1096)) 0 3 4 ∧
    NoChoice (attempting 0#24 0 none) 0 3 ∧ (∀ g, ¬ FirstChoice (attempting 0#24 0 none) 0 3 g) ∧
    (((attempting 0#24 0 none).link 0).mode = .service ∧ inService (attempting 0#24 0 none) 3 = true ∧
      ((attempting 0#24 0 none).record 0).map (fun w => (w.state, w.forced, w.centre)) =
        some (.candidate, true, some 3) ∧
      servingHead (attempting 0#24 0 none) 0 = some 3 ∧ ((attempting 0#24 0 none).head 3).state = .draining ∧
      ((after .slotClose (attempting 0xFFFFFE#24 0 (some 1096))).link 0).health = .good ∧
      ((after .slotClose (attempting 0#24 247 none)).link 0).health = .lost ∧
      naming (after .slotClose (attempting 0#24 247 none)) 3 = [] ∧
      naming (after .slotClose (attempting 0#24 247 none true)) 3 ≠ []) := by
  have top : ∀ set k f, IsChoice (attempting set 0 (some 1096)) 0 3 k f → f < 1096 ∨ f = 1096 ∧ (4 : HeadNo) ≤ k :=
    fun set k f h => by
      obtain ⟨rfl, rfl, -⟩ := attempting_choice set (.inr rfl) k f h
      exact .inr ⟨rfl, Nat.le_refl _⟩
  have none' : ∀ g e, ¬ IsChoice (attempting 0#24 0 none) 0 3 g e := fun g e h =>
    nomatch (attempting_choice 0#24 (.inl rfl) g e h).2.2
  refine ⟨⟨targetFound_iff.mpr (by decide +kernel), 1096, isChoice_iff.mpr (by decide +kernel),
      fun k f h _ => top 0xFFFFFE#24 k f h⟩, fun g e h => ?_,
    ⟨1096, isChoice_iff.mpr (by decide +kernel), top 0#24⟩, fun g e h => (none' g e h).elim,
    fun g ⟨e, h, _⟩ => none' g e h, by decide +kernel⟩
  obtain ⟨rfl, -⟩ := attempting_choice 0#24 (.inr rfl) g e h
  exact noTarget_iff.mpr (by decide +kernel)

/-- R119: the attempt enters a forced DUAL with the measurement of the same slot, or is blocked; with the link LOST it
is unplaced, which completes the drain. -/
theorem test_settled_attempt :
    let r := fun s : State => ((after .slotClose s).record 0).map fun w => (w.state, w.forced, w.blocked, w.centreQ)
    r (attempting 0xFFFFFE#24 0 (some 1096)) = some (.dual, true, 0, some 999) ∧
    r (attempting 0#24 0 none) = some (.candidate, true, 1, some 999) ∧
    r (attempting 0#24 247 none) = some (.settled, false, 0, none) ∧
    ((after .slotClose (attempting 0#24 247 none)).head 3).state = .off := by decide +kernel

/-- The close of a slot in which head 4 measured link 0 in a LISTEN cell. -/
def listening (awaited oos : Bool) : State :=
  inSlot ⟨5#16, 3, 4⟩ 4 ⟨.listen 0, awaited, some ⟨.garbled, 62#8, []⟩, oos⟩ (qualified 0#24)

/-- The slot in progress of `listening`. -/
def listeningSlot (awaited oos : Bool) : OpenSlot :=
  { emptySlot ⟨5#16, 3, 4⟩ with
    entries := put (emptySlot ⟨5#16, 3, 4⟩).entries 4 ⟨.listen 0, awaited, some ⟨.garbled, 62#8, []⟩, oos⟩ }

theorem listening_only (awaited oos : Bool) :
    OnlyEntry (listening awaited oos) (listeningSlot awaited oos) 4 :=
  ⟨rfl, rfl, ⟨rfl, rfl⟩, ⟨(by decide : 0 < 4), (by decide : 4 < 23)⟩, fun g hg => .inr (others_off _ 4 g _ hg)⟩

/-- R48: a LISTEN cell measures head 4, 1096 towards 992; out of service it does not. -/
theorem test_listen : inService (listening true false) 4 = true ∧ ((listening true false).exch 0).opened = false ∧
    ((after .slotClose (listening true false)).record 0).bind (·.rightQ) = some 1083 ∧
    ((after .slotClose (listening true true)).record 0).bind (·.rightQ) = some 1096 := by decide +kernel

theorem test_meets_head_loss : HeldLaw (qualified 0#24) ∧ HeldLaw (qualified 0xFFFFFE#24) ∧
    HeldLaw (qualified 0#24 .test) ∧ HeldLaw (headIn 6 .on yard) ∧ OnlyLinkOn (qualified 0#24) 3 0 ∧
    OnlyLinkOn (qualified 0xFFFFFE#24) 3 0 ∧ OnlyLinkOn (qualified 0#24 .test) 3 0 ∧ HeldLaw yard ∧ NoneSettles yard 6 ∧
    NoneSettles yard 9 ∧ (inService (qualified 0#24) 3 = true ∧ servingHead (qualified 0#24) 0 = some 3 ∧
      servingHead yard 1 = some 6 ∧ targetHead yard 1 = some 9 ∧ (yard.record 1).map (·.state) = some .dual ∧
      (yard.resv 1).target = some ⟨9, 8, .two, 1⟩ ∧ (yard.head 6).state = .draining ∧ (yard.exch 1).best = none ∧
      servingHead yard 23 ≠ some 6 ∧ targetHead yard 23 ≠ some 6 ∧ yard.record 23 = none ∧ servingHead yard 0 ≠ some 6 ∧
      targetHead yard 0 ≠ some 6 ∧ inService yard 9 = true ∧ inService yard 6 = true ∧
      ((qualified 0#24 .test).link 0).test = some ⟨100, 5, 2, 1#15⟩ ∧ ((qualified 0#24 .test).exch 0).best = none) := by
  have only : ∀ r ∈ table (qualified 0#24 .test), r.place.head = 3 → r.link = 0 := by decide +kernel
  refine ⟨heldLaw_of ?_, heldLaw_of ?_, heldLaw_of ?_, heldLaw_of ?_, only, only, only, yard_heldLaw, noneSettles_of ?_,
    noneSettles_of ?_, ?_⟩ <;> decide +kernel

/-- R116: link 0 moves to head 4, or is unplaced when head 4 admits no slot. -/
theorem test_emergency_move :
    (after (.headStatusRecord 3 9#32 true) (qualified 0xFFFFFE#24)).resv 0 = ⟨some ⟨4, 1, .one, 0⟩, none⟩ ∧
    ((after (.headStatusRecord 3 9#32 true) (qualified 0#24)).link 0).health = .lost := by decide +kernel

/-- R28, R115: link 1 in DUAL completes onto its target when its serving head is lost. -/
theorem test_head_lost_in_dual : (after (.headMissedAbsent 6) yard).resv 1 = ⟨some ⟨9, 8, .two, 1⟩, none⟩ := by
  decide +kernel

theorem test_meets_drain_expires : (yard.head 6).drainTimer ≤ 1 ∧ servingHead yard 1 = some 6 ∧
    (yard.record 1).map (·.state) = some .dual ∧ servingHead yard 2 = some 6 ∧
    (yard.record 2).map (fun w => (w.state, w.forced)) = some (.candidate, true) ∧ servingHead yard 0 ≠ some 6 ∧
    1 < ((yard.setHead 6 { yard.head 6 with drainTimer := 2 }).head 6).drainTimer ∧
    (yard.head 3).state ≠ .draining := by decide +kernel

theorem test_drain_expires : ((after (.drainExpiry 6) yard).head 6).drainOutcome = .failed 2 := by decide +kernel

theorem test_meets_head_link_bytes : ∀ h, yard.hp.rx.get h = [] := by decide +kernel

theorem test_meets_head_restore : Ready yard ∧ 12 ≤ (12#8).toNat ∧ (11#8).toNat = (11 : HeadNo).1 ∧
    (yard.head 11).state = .absent ∧ ((headIn 11 .off yard).head 11).state = .off ∧ (yard.head 3).state = .on ∧
    (yard.head 6).state = .draining := ⟨yard_ready, by decide +kernel⟩

theorem test_meets_head_retire : Ready yard ∧ HeldLaw yard ∧ (yard.head 3).state = .on ∧ (yard.head 4).state = .on ∧
    naming yard 3 ≠ [] ∧ naming yard 4 = [] ∧ servingHead (withLink 0 (fun l => { l with health := .lost }) yard) 0 =
      some 3 := ⟨yard_ready, yard_heldLaw, by decide +kernel⟩

/-- No reservation of a link in DUAL lies on a DRAINING head, and none keeps a result. -/
theorem test_meets_drain_start : HeldLaw (headIn 6 .on yard) ∧ NoneSettles (headIn 6 .on yard) 6 ∧
    HeldLaw (headIn 6 .on (headIn 9 .on yard)) ∧ (∀ z g, targetHead (headIn 6 .on yard) z = some g →
      ((headIn 6 .on yard).head g).state ≠ .draining) ∧
    (servingHead (headIn 6 .on yard) 1 = some 6 ∧ ((headIn 6 .on yard).link 1).health ≠ .lost ∧
      ((headIn 6 .on yard).record 1).map (·.state) = some .dual ∧ ((headIn 6 .on yard).head 6).state = .on ∧
      ((headIn 6 .on yard).head 9).state = .on ∧
      servingHead (withLink 0 (fun l => { l with health := .lost }) yard) 0 = some 3 ∧
      ((withLink 0 (fun l => { l with health := .lost }) yard).link 0).health = .lost) := by
  refine ⟨heldLaw_of ?_, noneSettles_of ?_, heldLaw_of ?_, ?_, ?_⟩ <;> decide +kernel

theorem test_meets_forced_attempt : Ready (qualified 0#24) ∧ OnlyLinkOn (qualified 0#24) 3 0 ∧
    ((qualified 0#24).link 0).health ≠ .lost ∧ ((qualified 0#24).record 0).map (·.state) = some .candidate ∧
    servingHead yard 1 = some 6 ∧ (headIn 6 .on yard).head 6 = { HeadRecord.reset with state := .on } ∧
    targetHead (headIn 6 .on yard) 1 = some 9 :=
  ⟨ready_of (by decide +kernel), test_meets_head_loss.2.2.2.2.1, by decide +kernel⟩

/-- R119: link 0 enters a forced DUAL onto head 4, or is blocked. -/
theorem test_forced_attempt :
    ((after (.headRetire 1#8 3#8) (qualified 0xFFFFFE#24)).record 0).map (fun w => (w.state, w.forced)) =
      some (.dual, true) ∧
    ((after (.headRetire 1#8 3#8) (qualified 0#24)).record 0).map (·.blocked) = some 1 := by decide +kernel

/-- R34: a head that no reservation names leaves service in the event of its retire. -/
theorem test_retire_empty_head : ((after (.headRetire 1#8 4#8) yard).head 4).state = .off ∧
    ((after (.headRetire 1#8 3#8) yard).head 3).drainTimer = 256 := by decide +kernel

theorem test_meets_head_query : Ready yard ∧ (6#8).toNat = (6 : HeadNo).1 ∧ (naming yard 6).length = 2 :=
  ⟨yard_ready, by decide +kernel⟩

/-- The yard with link 0 RECOVERING at a recovery count. -/
def recovering (n : Nat) : State :=
  withLink 0 (fun l => { l with health := .recovering, score := 255, recovery := n }) yard

theorem test_meets_recovery : ((recovering 15).link 0).mode ≠ .closed ∧ ((recovering 15).link 0).health = .recovering ∧
    15 ≤ ((recovering 15).link 0).recovery ∧ ((recovering 14).link 0).recovery < 15 := by decide +kernel

theorem test_recovered : ((after (.recoveryComplete 0) (recovering 15)).link 0).mode = .standby := by decide +kernel

theorem test_meets_abandon : (∀ w, yard.record 0 = some w → w.state ≠ .dual) ∧
    ((yard.record 1).map (fun w => (w.state, w.dual)) = some (.dual, 7) ∧ servingHead yard 1 = some 6 ∧
      (yard.head 6).state = .draining ∧ targetHead yard 1 ≠ some 6 ∧ ((headIn 6 .on yard).head 6).state = .on) := by
  refine ⟨fun w e => ?_, by decide +kernel⟩
  have h : (yard.record 0).map (·.state) = some .settled := by decide +kernel
  simp_all

theorem test_abandoned : (((after (.handoverAbandon 1) yard).record 1).map fun w => (w.state, w.forced, w.abandoned)) =
    some (.candidate, true, 1) := by decide +kernel

theorem test_meets_test_completes : (testing.link 23).mode = .test ∧
    ((testing.link 23).test.map fun p => decide (p.target ≤ p.done + 1)) = some true ∧
    (yard.link 0).mode ≠ .test := by decide +kernel

/-- 5.6.1: 64 differing bits of a failed last exchange. -/
theorem test_test_result : ((after (.testComplete 23 64) testing).link 23).testResult = some ⟨100, 66, false⟩ := by
  decide +kernel

theorem test_meets_handover_start : Qualifier (qualified 0xFFFFFE#24) 0 3 4 ∧ Qualifier (qualified 0#24) 0 3 4 ∧
    TargetFound (qualified 0xFFFFFE#24) 0 4 ⟨4, 1, .one, 0⟩ ∧ NoTarget (qualified 0#24) 0 4 ∧
    (∀ c q, servingHead yard 0 = some c → ¬ Qualifier yard 0 c q) ∧
    (servingHead (qualified 0#24) 0 = some 3 ∧ ((qualified 0#24).link 0).mode = .service ∧
      ((qualified 0#24).link 0).health = .good ∧
      ((qualified 0#24).record 0).map (fun w => (w.state, w.forced, w.candidate, w.trigger)) =
        some (.candidate, false, some 4, 7) ∧ (qualified 0#24).cov.settings.trigger = 8) := by
  refine ⟨qualifier_iff.mpr (by decide +kernel), qualifier_iff.mpr (by decide +kernel),
    targetFound_iff.mpr (by decide +kernel), noTarget_iff.mpr (by decide +kernel), fun d q e h => ?_, by decide +kernel⟩
  have d3 : d = 3 := by
    have : servingHead yard 0 = some 3 := by decide +kernel
    simp_all
  subst d3
  have n : qualifier yard 0 3 = none := by decide +kernel
  rw [qualifier_iff, n] at h
  cases h

theorem test_handover_starts :
    (((after (.handoverStart 0) (qualified 0xFFFFFE#24)).record 0).map fun w => (w.state, w.trigger)) =
      some (.dual, 8) ∧
    (((after (.handoverStart 0) (qualified 0#24)).record 0).map fun w => (w.state, w.blocked)) =
      some (.candidate, 1) := by decide +kernel

/-- The yard with unit 1023 in a state, last heard `age` multiframes ago. -/
def aged (st : UnitState) (age : Nat) : State :=
  let s := yard.setUnit 1023 { UnitEntry.free with
    state := st, unitId := 88#32, lastHeard := 5#16 - BitVec.ofNat 16 age, attempts := 2 }
  if st = .polling then { s with reg := { s.reg with pollQueue := [1023] } } else s

theorem test_meets_unit_ageing : ((aged .listed 403).unit 1023).state = .listed ∧
    (profileOf (aged .listed 403) 1023).report + 2 < unitAge (aged .listed 403).fs.now (aged .listed 403) 1023 ∧
    unitAge yard.fs.now (aged .listed 402) 1023 ≤ (profileOf yard 1023).report + 2 ∧
    unitAge yard.fs.now (aged .listed 1600) 1023 ≤ 4 * (profileOf yard 1023).report ∧
    4 * (profileOf yard 1023).report < unitAge yard.fs.now (aged .polling 1601) 1023 ∧
    (profileOf yard 1023).gone < unitAge yard.fs.now (aged .silent 23439) 1023 ∧
    unitAge yard.fs.now (aged .silent 23438) 1023 ≤ (profileOf yard 1023).gone ∧
    (profileOf yard 1023).attempts ≤ ((aged .polling 9).unit 1023).attempts + 1 ∧ (yard.unit 1023).state = .free := by
  decide +kernel

theorem test_units_age : ((after (.unitBecomesPolling 1023) (aged .listed 403)).reg.pollQueue) = [1023] ∧
    ((after (.unitBecomesSilentByAge 1023) (aged .polling 1601)).unit 1023).state = .silent ∧
    (after (.unitBecomesSilentByAge 1023) (aged .polling 1601)).rep.alarms.map (·.kind) = [.silent] ∧
    ((after (.unitBecomesGone 1023) (aged .silent 23439)).unit 1023).goneSince = some 5#16 ∧
    ((after (.pollAttemptsExhausted 1023) (aged .polling 9)).unit 1023).attempts = 3 := by decide +kernel

/-- The last frame of multiframe 5, with unit 1023 last heard `age` multiframes before multiframe 6. -/
def ageing (st : UnitState) (age : Nat) : State := at' ⟨5#16, 15, 23⟩ (aged st (age - 1))

/-- The age of unit 1023 at the boundary, at the limits of its profile. -/
theorem test_meets_boundary_ageing :
    (∀ age, age = 402 ∨ age = 403 ∨ age = 1600 ∨ age = 1601 ∨ age = 23438 ∨ age = 23439 →
      ((ageing .listed age).fs.now.mf + 1#16 - ((ageing .listed age).unit 1023).lastHeard).toNat = age) ∧
    (ageing .listed 1601).fs.now.frame = 15 ∧ (profileOf (ageing .listed 1601) 1023).report = 400 ∧
    (profileOf (ageing .listed 1601) 1023).gone = 23438 ∧
    ((ageing .silent 23439).unit 1023).state = .silent ∧ ((ageing .gone 9).unit 1023).state = .gone ∧
    ((ageing .polling 1601).unit 1023).state = .polling ∧ ((ageing .listed 403).unit 1022).state = .free := by
  refine ⟨?_, by decide +kernel⟩
  rintro age (rfl | rfl | rfl | rfl | rfl | rfl) <;> decide +kernel

/-- R132, R148: the examination of one entry at a boundary, and a delivery age pinned at 32767. -/
theorem test_boundary_ageing :
    (ageUnit ⟨6#16, 0, 0⟩ 1023 (ageing .listed 1600)).reg.pollQueue = [1023] ∧
    ((ageUnit ⟨6#16, 0, 0⟩ 1023 (ageing .listed 1601)).unit 1023).state = .silent ∧
    (pinDelivery 6#16 { UnitEntry.free with snapshot := some ⟨none, 0, .on, 0#8, 0x8000#16⟩ }).snapshot =
      some ⟨none, 0, .on, 0#8, 0x8007#16⟩ := by decide +kernel

/-- Slot 9 with a POLL cell of unit 1023 on head 9 that brought no report, the unit at `attempts`. -/
def polled (st : UnitState) (attempts : Nat) (ret : Option Ret := none) : State :=
  let s := aged st 9
  inSlot ⟨5#16, 3, 9⟩ 9 ⟨.poll 1023 88#32, true, ret, false⟩ (at' ⟨5#16, 3, 9⟩
    (s.setUnit 1023 { s.unit 1023 with attempts := attempts }))

/-- The slot in progress of `polled`. -/
def polledSlot (ret : Option Ret := none) : OpenSlot :=
  { emptySlot ⟨5#16, 3, 9⟩ with entries := put (emptySlot ⟨5#16, 3, 9⟩).entries 9 ⟨.poll 1023 88#32, true, ret, false⟩ }

theorem test_meets_unanswered_poll :
    (∀ st n r, st = .polling ∨ st = .listed → OnlyCell (polled st n r) (polledSlot r) 9) ∧
    (∀ r, (((polledSlot r).entries.get 9).cell, ((polledSlot r).entries.get 9).ret) = (.poll 1023 88#32, r)) ∧
    failsOuter ((polledSlot (brings [0#8])).entries.get 9) = true ∧
    ((polled .polling 0).unit 1023).state = .polling ∧ ((polled .polling 0).unit 1023).unitId = 88#32 ∧
    ((polled .polling 0).unit 1023).attempts + 1 < (profileOf (polled .polling 0) 1023).attempts ∧
    (profileOf (polled .polling 2) 1023).attempts ≤ ((polled .polling 2).unit 1023).attempts + 1 ∧
    ((polled .listed 0).unit 1023).state ≠ .polling := by
  refine ⟨?_, fun _ => rfl, by decide +kernel⟩
  rintro st n r (rfl | rfl) <;> exact ⟨⟨rfl, rfl, ⟨rfl, rfl⟩, ⟨(by decide : 0 < 9), (by decide : 9 < 23)⟩,
    fun g hg => .inr (others_off _ 9 g _ hg)⟩, ⟨rfl, rfl⟩⟩

/-- R127, R134: an unanswered poll adds an attempt, also with a failing burst; the third makes the unit SILENT. -/
theorem test_unanswered_poll : ((after .slotClose (polled .polling 0)).unit 1023).attempts = 1 ∧
    ((after .slotClose (polled .polling 0 (brings [0#8]))).unit 1023).attempts = 1 ∧
    (after .slotClose (polled .polling 0 (brings [0#8]))).reg.outerFails = 1 ∧
    ((after .slotClose (polled .polling 2)).unit 1023).state = .silent := by decide +kernel

/-- A report burst: kind, unit id, sequence number, supply, power code and alarm code; return −17.5, setpoint −18.0. -/
def reportBytes (id : Word32) (kind seq : Byte) (supply : Int) (power alarm : Byte) : List Byte :=
  let inner := be16 (BitVec.ofInt 16 supply) ++ be16 (BitVec.ofInt 16 (-175)) ++ be16 (BitVec.ofInt 16 (-180)) ++ [power, alarm]
  withCheck (be32 id ++ [kind, seq] ++ inner ++ be16 (crc16 inner))

/-- The burst those bytes carry, its check of the readings valid. -/
def reportBurst (id : Word32) (kind : ReportKind) (seq : BitVec 4) (supply : Int) (power alarm : Byte) : ReportBurst :=
  ⟨id, kind, seq, supply, -175, -180, power, alarm, true⟩

/-- The slot in progress with a burst in a CONTENTION cell of head 4. -/
def arrivalSlot (bytes : List Byte) : OpenSlot :=
  { emptySlot ⟨9200#16, 6, 13⟩ with
    entries := put (emptySlot ⟨9200#16, 6, 13⟩).entries 4 ⟨.contention, true, brings bytes, false⟩ }

/-- `s` with that slot in progress. -/
def arriving (bytes : List Byte) (s : State) : State :=
  let s := inSlot ⟨9200#16, 6, 13⟩ 4 ⟨.contention, true, brings bytes, false⟩ (at' ⟨9200#16, 6, 13⟩ s)
  { s with fs := { s.fs with slotStarted := true } }

theorem arriving_oneBurst {s : State} (r : s.resetn = true) {bytes : List Byte} {b : ReportBurst}
    (h : readReport bytes = some b) : OneBurst (arriving bytes s) (arrivalSlot bytes) 4 b 90#8 where
  only :=
    { running := r
      inProgress := rfl
      current := ⟨rfl, rfl⟩
      slot := ⟨(by decide : 0 < 13), (by decide : 13 < 23)⟩
      awaited := ⟨rfl, rfl⟩
      others := fun g hg => .inr (others_off _ 4 g _ hg) }
  cell := .inl rfl
  burst := ⟨bytes, rfl, h⟩

theorem yard_notHeld (bytes : List Byte) : NotHeld (arriving bytes yard) 78#32 := by
  intro u
  change (yard.unit u).state = .free ∨ (yard.unit u).unitId ≠ 78#32
  rw [yard_unit]
  split
  · exact .inr (by decide)
  · exact .inl rfl

/-- The yard with every entry in use by the unit of its index, entry 5 in a state since multiframe 5. -/
def crowded (st : UnitState) : State :=
  { yard with reg := { yard.reg with units := Vector.ofFn fun u => { UnitEntry.free with
      state := if u = 5 then st else .listed, unitId := BitVec.ofNat 32 (u.1 + 1000),
      goneSince := if u = 5 then some 5#16 else none } } }

theorem crowded_unit (st : UnitState) (bytes : List Byte) (u : UnitNo) : (arriving bytes (crowded st)).unit u =
    { UnitEntry.free with state := if u = 5 then st else .listed, unitId := BitVec.ofNat 32 (u.1 + 1000),
                          goneSince := if u = 5 then some 5#16 else none } := by
  change (Vector.ofFn _).get u = _
  simp [Vector.get_eq_getElem]

/-- The bursts of the arrivals, each read from its bytes, and their profile. -/
theorem test_meets_arrivals :
    readReport (reportBytes 77#32 2#8 0#8 (-135) 1#8 0#8) = some (reportBurst 77#32 .periodic 0#4 (-135) 1#8 0#8) ∧
    readReport (reportBytes 77#32 1#8 3#8 (-135) 1#8 0#8) = some (reportBurst 77#32 .join 3#4 (-135) 1#8 0#8) ∧
    readReport (reportBytes 78#32 1#8 3#8 (-2048) 0#8 0#8) = some (reportBurst 78#32 .join 3#4 (-2048) 0#8 0#8) ∧
    acceptedProfile yard 77#32 = some 0 ∧ (yard.unit 0).unitId = 77#32 ∧ (yard.unit 0).lastSeq = 0#4 ∧
    acceptedProfile { yard with reg := { yard.reg with filters := Vector.replicate 8 (yard.reg.filters.get 1) } } 77#32 =
      none := by decide +kernel

/-- The counts of a slot close: a burst that fails the outer test, at the counter's end too, a garbled return, and one
that came after the multiframe boundary. -/
theorem test_meets_slot_counts : (arriving [0#8] yard).hp.openSlot = some (arrivalSlot [0#8]) ∧
    (arrivalSlot [0#8]).time = (arriving [0#8] yard).fs.now ∧ (arriving [0#8] yard).reg.outerFails ≤ 65535 ∧
    (let e := (arrivalSlot [0#8]).entries.get 4; failsOuter e = true ∧ bringsGarbled e = true) ∧
    contended.hp.openSlot.map (fun o => (o.time.slot, o.stale, bringsGarbled (o.entries.get 9),
      failsOuter (o.entries.get 9))) = some (23, false, true, false) ∧ contended.fs.now = ⟨9#16, 15, 23⟩ ∧
    (after (.headReturn 9 9#16 15#8 23#8 2#8 40#8 []) (openMultiframe (shiftExchanges (advanceFrame awaiting)))).hp.openSlot.map
      (fun o => (o.time.slot, o.stale, bringsGarbled (o.entries.get 9), o.rolled.isSome)) =
        some (23, true, true, true) := ⟨rfl, by decide +kernel⟩

/-- R42, R127: the failing burst counts as an outer failure, up to 65535, and as a garbled result of its head. -/
theorem test_slot_counts : let t := after .slotClose (arriving [0#8] yard)
    let u := after .slotClose (arriving [0#8] { yard with reg := { yard.reg with outerFails := 65535 } })
    t.reg.outerFails = 1 ∧ (t.head 4).garbled = 1 ∧ u.reg.outerFails = 65535 ∧
      ((after .slotClose contended).head 9).garbled = 2 := by decide +kernel

theorem test_meets_processed (bytes : List Byte) :
    Processed (arriving bytes yard) 4 0 90#8 (reportBurst 77#32 .join 3#4 (-135) 1#8 0#8) 0
      (joinedOwn (yard.unit 0) 4 0 90#8 9200#16 (reportBurst 77#32 .join 3#4 (-135) 1#8 0#8)) ∧
    Processed (arriving bytes yard) 4 0 90#8 (reportBurst 77#32 .periodic 3#4 (-135) 1#8 0#8) 0
      (reported (yard.unit 0) 4 90#8 9200#16 (reportBurst 77#32 .periodic 3#4 (-135) 1#8 0#8)) ∧
    Processed (arriving bytes yard) 4 0 90#8 (reportBurst 78#32 .join 3#4 (-2048) 0#8 0#8) 1
      (joinedFresh 4 0 90#8 9200#16 (reportBurst 78#32 .join 3#4 (-2048) 0#8 0#8)) ∧
    Processed (arriving bytes (crowded .gone)) 4 0 90#8 (reportBurst 78#32 .join 3#4 (-2048) 0#8 0#8) 5
      (joinedFresh 4 0 90#8 9200#16 (reportBurst 78#32 .join 3#4 (-2048) 0#8 0#8)) := by
  have h0 : (yard.unit 0).state ≠ .free ∧ (yard.unit 0).unitId = 77#32 ∧ (3#4 : BitVec 4) ≠ (yard.unit 0).lastSeq := by
    decide +kernel
  refine ⟨.inl ⟨rfl, h0.1, h0.2.1, rfl⟩, .inr (.inr ⟨nofun, h0.1, h0.2.1, h0.2.2, rfl⟩),
    .inr (.inl ⟨rfl, yard_notHeld bytes, .inl ⟨?_, ?_⟩, rfl⟩), .inr (.inl ⟨rfl, ?_, .inr ⟨?_, ?_, 5#16, ?_, ?_⟩, rfl⟩)⟩
  · change (yard.unit 1).state = .free
    rw [yard_unit]; rfl
  · intro v hv
    have : v = 0 := by ext; have : v.1 < 1 := hv; omega
    subst this
    exact h0.1
  · intro u
    right
    rw [crowded_unit]
    intro e
    have := congrArg BitVec.toNat e
    simp [reportBurst] at this
    omega
  · intro v
    rw [crowded_unit]
    dsimp only
    split <;> decide
  · rw [crowded_unit]; rfl
  · rw [crowded_unit]; rfl
  · intro v other hs ho
    rw [crowded_unit] at hs ho
    by_cases e : v = 5
    · subst e
      cases ho
      exact .inr ⟨rfl, Nat.le_refl _⟩
    · simp [e] at hs

theorem test_meets_refused_join (bytes : List Byte) : NotHeld (arriving bytes (crowded .listed)) 78#32 ∧
    ∀ u, ((arriving bytes (crowded .listed)).unit u).state ≠ .free ∧
      ((arriving bytes (crowded .listed)).unit u).state ≠ .gone := by
  refine ⟨fun u => .inr ?_, fun u => ?_⟩ <;> rw [crowded_unit]
  · intro e
    have := congrArg BitVec.toNat e
    simp at this
    omega
  · simp

/-- Unit 0 as before the seq 3 report of 8.8: run 1, snapshot −140, −180, ON, 0 of multiframe 8800. -/
def worked88 : State := yard.setUnit 0 { yard.unit 0 with
  lastSeq := 2#4, run := 1, readings := some ⟨some (-140), -175, -180, .on, 0#8⟩,
  snapshot := some ⟨some (-140), -180, .on, 0#8, 8800#16⟩ }

theorem test_meets_reports : UnitIdLaw (arriving [] yard) ∧ Sound (reportBurst 77#32 .join 3#4 (-135) 1#8 0#8) .on ∧
    (∀ w, ¬ Sound (reportBurst 78#32 .join 3#4 (-2048) 0#8 0#8) w) ∧ (worked88.unit 0).snapshot.isSome = true :=
  ⟨test_meets_step_keeps_unit_id_law, ⟨rfl, rfl⟩, fun w (h : Sound _ w) => (nomatch h.2), by decide +kernel⟩

/-- 8.8: the seq 3 report brings run 2, EXCURSION live, latched and recorded, and is forwarded; a report of −138 is
not. -/
theorem test_worked_report :
    let t := after .slotClose (arriving (reportBytes 77#32 2#8 3#8 (-135) 1#8 0#8) worked88)
    let u := after .slotClose (arriving (reportBytes 77#32 2#8 3#8 (-138) 1#8 0#8) worked88)
    (t.unit 0).run = 2 ∧ (t.unit 0).latched = 2#4 ∧ t.rep.alarms.map (·.kind) = [.excursion] ∧
      t.rep.reports.map (·.seq) = [3#4] ∧ t.rep.acks = [⟨77#32, 3#4⟩] ∧ u.rep.reports = [] := by decide +kernel

/-- R142: a report with power code 0 is recorded as suspect and stores no reading. -/
theorem test_suspect : let t := after .slotClose (arriving (reportBytes 77#32 1#8 3#8 (-100) 0#8 0#8) worked88)
    (t.unit 0).readings = (worked88.unit 0).readings ∧ (t.unit 0).lastSeq = 3#4 ∧
      t.rep.reports.map (fun r => (r.suspect, r.readings.supply)) = [(true, some (-100))] := by decide +kernel

/-- A command entry as carried. -/
def entryVals : EntryVals := ⟨7#16, 1#16, 2#16, 3#16, 4#8, false⟩

theorem test_meets_frame_statements : (HostCmd.planStage true (List.replicate 48 ⟨4#8, 0#8, 2#24⟩)).wf = true ∧
    (HostCmd.craneAppend 0#8 (List.replicate 16 entryVals)).wf = true ∧ (HostCmd.craneSplice 0#8 [entryVals]).wf = true ∧
    yard.cp.rx = [] ∧ (List.replicate 1018 (0#8 : Byte)).length + 2 ≤ 1020 ∧ yard.resetn = true := by decide +kernel

/-- `s` after one byte of a frame. -/
def receiving (s : State) : State := after (.controlPortByteReceived 0xC3#8 true) s

/-- The yard with one frame waiting behind a full outbound queue: 63 notices behind one reply. -/
def blocked (f : Frame) : State :=
  { yard with cp := { yard.cp with
    inbound := [f], replies := [.reply 3#8 1#8 (.ok .identify)], notices := List.replicate 63 .ready } }

theorem test_meets_receiver_failures : (receiving yard).resetn = true ∧ (receiving yard).cp.rx ≠ [] ∧
    (0#16 : Word16) ≠ Frame.check ⟨3#8, 1#8, []⟩ ∧ (0x00#8 : Byte) ≠ 0xC3#8 ∧
    2 ≤ ({ yard.cp with inbound := [⟨3#8, 1#8, []⟩, ⟨3#8, 2#8, []⟩] } : ControlPort).inbound.length ∧
    (blocked ⟨3#8, 1#8, []⟩).cp.inbound = [⟨3#8, 1#8, []⟩] ∧ 64 ≤ (outbound (blocked ⟨3#8, 1#8, []⟩)).length ∧
    (after (.controlPortByteReceived 0xC3#8 true) (receiving yard)).cp.rx = [0xC3#8, 0xC3#8] ∧
    1020 < 256 * (0xC3#8 : Byte).toNat + (0#8 : Byte).toNat ∧ 256 * (0#8 : Byte).toNat + (1#8 : Byte).toNat < 2 := by
  decide +kernel

/-- R160: after a bad length hunting resumes at the first length byte, here a sync byte. -/
theorem test_bad_length :
    let t := after (.controlPortByteReceived 2#8 true) (after (.controlPortByteReceived 0xC3#8 true) (receiving yard))
    t.cp.rx = [0xC3#8, 2#8] ∧ t.cp.frameErrors = 1 ∧ flagSet t .link = true := by decide +kernel

/-- R160: a gap in a frame; a gap while hunting counts nothing. -/
theorem test_gap : (after .frameGap (receiving yard)).cp.frameErrors = 1 ∧ (after .frameGap yard).cp.frameErrors = 0 := by
  decide +kernel

/-- R165, R168: with LINK clear and enabled a gap makes an EVENT notice, which a full outbound queue drops. -/
theorem test_event_notice :
    let s := { receiving yard with cp := { (receiving yard).cp with enables := 0x3FF#10 } }
    let u := { s with cp := { s.cp with notices := List.replicate 64 .ready } }
    (after .frameGap s).cp.notices.drop 1 = [.event .link 255#8 (after .frameGap s).cp.flags s.fs.now] ∧
    (after .frameGap u).cp.notices.length = 64 ∧ (after .frameGap u).cp.noticeDrops = 1 := by decide +kernel

theorem test_meets_unknown : yard.cp.inbound = [] ∧ kindLengthOk 0x05#8 0 = false ∧ kindLengthOk 0x34#8 1 = false ∧
    kindLengthOk 0x34#8 171 = false ∧ kindLengthOk 0x03#8 1 = false ∧ hasRoom yard = true := by decide +kernel

theorem test_unknown : (after (.unknownCommand 9#8 0x05#8 []) yard).cp.replies = [.reply 0x05#8 9#8 .unknown] ∧
    (after (.unknownCommand 9#8 0x34#8 [0#8]) yard).cp.malformed = 1 := by decide +kernel

theorem test_meets_transmitter : yard.cp.inbound = [] ∧ yard.cp.replies = [] ∧ yard.cp.notices = [.ready] ∧
    ({ yard.cp with notices := [] } : ControlPort).notices = [] ∧
    ({ yard.cp with notices := [.craneAlarm 0 100#32 1#8 0#8 0#16 ⟨0#16, 0, 1⟩] } : ControlPort).notices =
      .craneAlarm 0 100#32 1#8 0#8 0#16 ⟨0#16, 0, 1⟩ :: [] ∧
    (outbound (blocked ⟨5#8, 2#8, []⟩)).length = 64 ∧
    (blocked ⟨5#8, 2#8, []⟩).cp.replies = .reply 3#8 1#8 (.ok .identify) :: [] ∧
    (outbound { full with cp := { full.cp with inbound := [⟨3#8, 1#8, []⟩] } }).length = 64 ∧
    (outbound { full with cp := { full.cp with
      notices := .craneAlarm 0 100#32 1#8 0#8 0#16 ⟨0#16, 0, 1⟩ :: List.replicate 63 .ready } }).length = 64 ∧
    kindLengthOk 5#8 ([] : List Byte).length = false := by decide +kernel

theorem test_meets_plain_notice : ∀ x term c p g t, Message.ready ≠ .craneAlarm x term c p g t := by
  intro x term c p g t e
  cases e

/-- R169, R165: READY is the first message transmitted; then the transmitter is idle. -/
theorem test_ready_first : (after .messageTransmitted State.reset).cp.sending = some .ready ∧
    (after .messageTransmitted (after .messageTransmitted State.reset)).cp.sending = none := by decide +kernel

/-- The premise of POLL EVENTS, NOTIFY SET, the queries, PLAN COMMIT, COVER SET and the Report Unit's commands. -/
theorem test_meets_ready : Ready yard := yard_ready

theorem test_poll_events : (after (.pollEvents 1#8) State.reset).cp.flags = 0#10 ∧
    (after (.pollEvents 1#8) State.reset).cp.replies =
      [.reply 0x01#8 1#8 (.ok (.pollEvents 1#10 0#24 0#24 0#12 .none 0 0 0 0))] := by decide +kernel

theorem test_notify_set : (after (.notifySet 1#8 0xFFFF#16) State.reset).cp.enables = 0x3FF#10 := by decide +kernel

theorem test_meets_quiet_reset : Ready yard ∧ HeldLaw yard ∧ PoolLaw yard ∧ StopLaw yard ∧
    (yard.head 6).state = .draining :=
  ⟨yard_ready, yard_heldLaw, test_meets_step_keeps_pool_law, test_meets_step_keeps_stop_law, by decide +kernel⟩

theorem test_quiet_reset : table (after (.quietReset 1#8) yard) = [] ∧
    ((after (.quietReset 1#8) yard).head 6).drainOutcome = .cancelled ∧
    outbound (after (.quietReset 1#8) yard) = [.reply 0x04#8 1#8 (.ok .empty)] := by decide +kernel

theorem test_meets_plan_stage : Ready yard ∧
    (∃ e ∈ [(⟨1#8, 12#8, 0#24⟩ : PlanEdit)], (e.code = 1#8 ∨ e.code = 3#8) ∧ 12 ≤ e.object.toNat ∨
      e.code = 2#8 ∧ (e.object = 0#8 ∨ 24 ≤ e.object.toNat)) ∧
    (∀ e ∈ [(⟨1#8, 11#8, 0#24⟩ : PlanEdit), ⟨2#8, 23#8, 0#24⟩, ⟨3#8, 0#8, 1#24⟩, ⟨4#8, 0#8, 9#24⟩],
      ((e.code = 1#8 ∨ e.code = 3#8) → e.object.toNat < 12) ∧ (e.code = 2#8 → e.object ≠ 0#8 ∧ e.object.toNat < 24)) :=
  ⟨yard_ready, by decide +kernel⟩

theorem test_edit_clamps : (applyEdit Plan.default ⟨4#8, 0#8, 9#24⟩).maxPolls = 8 ∧
    (applyEdit Plan.default ⟨1#8, 11#8, 7#24⟩).headGroup.get 11 = 2 ∧
    (applyEdit Plan.default ⟨3#8, 11#8, 0xFFFFFF#24⟩).allowed.get 11 = 0xFFFFFE#24 := by decide +kernel

/-- A search that finds `p` finds the first admissible place of R66: a check over all slots and phases. -/
theorem firstAdmissible_of {s : State} {x : LinkNo} {h : HeadNo} {period : Period} {preferred : SlotNo} {p : Place}
    (k : p.head = h ∧ p.period = period ∧ p.slot ≠ 0 ∧ p.phase < period.frames ∧ admissible s x p = true)
    (all : ∀ sl : SlotNo, ∀ ph < period.frames, admissible s x ⟨h, sl, period, ph⟩ = true →
      searchOffset preferred p.slot < searchOffset preferred sl ∨ p.slot = sl ∧ p.phase ≤ ph) :
    FirstAdmissible s x h period preferred p := by
  refine ⟨k.1, k.2.1, k.2.2.1, k.2.2.2.1, k.2.2.2.2, ?_⟩
  rintro ⟨g, sl, per, ph⟩ rfl rfl hp ha
  exact all sl ph hp ha

/-- No place of a head and a period is admissible: a check over all slots and phases. -/
theorem noPlace_of {s : State} {x : LinkNo} {h : HeadNo} {period : Period}
    (all : ∀ sl : SlotNo, ∀ ph < period.frames, admissible s x ⟨h, sl, period, ph⟩ = false) :
    ∀ p : Place, p.head = h → p.period = period → p.phase < p.period.frames → admissible s x p = false := by
  rintro ⟨g, sl, per, ph⟩ rfl rfl hp
  exact all sl ph hp

theorem test_meets_admission : FirstAdmissible yard 23 4 (readPeriod 4#8) (readPreferred 4#8) ⟨4, 5, .four, 0⟩ ∧
    ∀ p : Place, p.head = 4 → p.period = readPeriod 4#8 → p.phase < p.period.frames →
      admissible (qualified 0#24) 23 p = false :=
  ⟨firstAdmissible_of (by decide +kernel) (by decide +kernel), noPlace_of (by decide +kernel)⟩

theorem test_meets_crane_open : Ready yard ∧ 24 ≤ (24#8).toNat ∧ (23#8).toNat = (23 : LinkNo).1 ∧
    (yard.link 0).mode ≠ .closed ∧ (yard.link 23).mode = .closed ∧ (yard.link 0).terminal = 100#32 ∧
    (∀ y, y ≠ 23 → (yard.link y).mode ≠ .closed → (yard.link y).terminal ≠ 123#32) ∧ (yard.head 11).state ≠ .on ∧
    (yard.head 4).state = .on ∧
    admissionSearch yard 23 4 (readPeriod 4#8) (readPreferred 4#8) = some ⟨4, 5, .four, 0⟩ ∧
    admissionSearch (qualified 0#24) 23 4 (readPeriod 4#8) (readPreferred 4#8) = none :=
  ⟨yard_ready, by decide +kernel⟩

theorem test_crane_open : ((after (.craneOpen 1#8 23#8 123#32 4#8 4#8 4#8 7#16 64#8) yard).link 23).lowMark = 63 ∧
    (after (.craneOpen 1#8 23#8 123#32 4#8 4#8 4#8 7#16 64#8) yard).resv 23 = ⟨some ⟨4, 5, .four, 0⟩, none⟩ := by
  decide +kernel

theorem test_meets_crane_close : Ready testing ∧ (testing.link 23).mode = .test ∧
    (testing.link 23).test = some ⟨100, 99, 2, 1#15⟩ ∧ (testing.link 0).mode ≠ .test ∧ (testing.link 0).mode ≠ .closed ∧
    (testing.link 22).mode = .closed := ⟨ready_of (by decide +kernel), by decide +kernel⟩

/-- What a release turns QUIET: the CRANE cell in slot 4, not yet started, and a LISTEN cell beside it, nothing else. -/
theorem test_meets_released : Ready celled ∧ HeldLaw celled ∧ Released celled 0 3 4 ∧ Released celled 0 4 4 ∧
    ¬ Released celled 0 2 4 ∧
    ∀ x, ¬ Released celled x 3 5 := by
  have c : celled.cell 3 4 = .crane 0 .primary ∧ celled.cell 4 4 = .listen 0 ∧ celled.cell 2 4 = .beacon ∧
      celled.fs.slotStarted = false := by decide +kernel
  have p : (celled.resv 0).primary = some ⟨3, 4, .one, 0⟩ := rfl
  have now : celled.fs.now.slot = 4 := rfl
  refine ⟨ready_of (by decide +kernel), heldLaw_of (by decide +kernel),
    ⟨_, .primary, .inl p, rfl, .inr ⟨now, c.2.2.2⟩, c.1, .inl rfl⟩,
    ⟨_, .primary, .inl p, rfl, .inr ⟨now, c.2.2.2⟩, c.1, .inr ⟨by decide, c.2.1⟩⟩, ?_, ?_⟩
  · rintro ⟨q, r, -, -, -, hc, e | ⟨-, hl⟩⟩
    · rw [← e, c.2.2.1] at hc; cases hc
    · rw [c.2.2.1] at hl; cases hl
  · have k : ∀ g, (celled.cell g 5).isExchange = false := by decide +kernel
    rintro x ⟨q, r, -, -, -, hc, -⟩
    have := k q.head
    rw [hc] at this
    cases this

/-- R21, R23: CRANE CLOSE turns both cells QUIET. -/
theorem test_close_releases : ((List.finRange 12).map fun h => (after (.craneClose 1#8 0#8) celled).cell h 4) =
    [.quiet, .off, .beacon, .quiet, .quiet, .off, .poll 1023 77#32, .off, .off, .contention, .crane 23 .primary, .off] := by
  decide +kernel

/-- The yard with link 0 in a health, its list of `n` entries drawn from the pool. -/
def listed (h : Health) (n : Nat) : State :=
  let s := withLink 0 (fun l => { l with health := h, list := List.replicate n (entry 7#16) }) yard
  { s with cle := { s.cle with poolFree := 512 - n } }

theorem test_meets_crane_mode : Ready yard ∧ (yard.link 23).mode = .closed ∧ (testing.link 23).mode = .test ∧
    (yard.link 0).mode = .service ∧ (yard.link 1).mode = .standby ∧ (yard.link 1).health = .good ∧
    ((withLink 1 (fun l => { l with health := .degraded }) yard).link 1).health = .degraded :=
  ⟨yard_ready, by decide +kernel⟩

theorem test_meets_object_queries : Ready yard ∧ 1024 ≤ (1024#32).toNat ∧
    (∀ u, (yard.unit u).state = .free ∨ (yard.unit u).unitId ≠ 78#32) ∧ namedUnit yard (.index 0#32) = .ok 0 ∧
    namedUnit yard (.unitId 77#32) = .ok 0 ∧ (yard.unit 0).state ≠ .free ∧ namedUnit yard (.index 1023#32) = .ok 1023 ∧
    (yard.unit 1023).state = .free ∧ ((aged .polling 9).unit 1023).state = .polling := by
  refine ⟨yard_ready, by decide, ?_, by decide +kernel⟩
  intro u
  rw [yard_unit]
  split
  · exact .inr (by decide)
  · exact .inl rfl

theorem test_meets_append : (List.replicate 16 entryVals).length ≤ 16 ∧ ((listed .good 48).link 0).mode ≠ .closed ∧
    ((listed .good 48).link 0).list.length + 16 ≤ 64 ∧ 16 ≤ (listed .good 48).cle.poolFree ∧
    64 < ((listed .good 49).link 0).list.length + 16 ∧ (yard.link 23).mode = .closed ∧
    ({ yard.cle with poolFree := 0 } : CraneEngine).poolFree < 1 := by decide +kernel

/-- R82, R83: an append joins at the tail, a splice at the head. -/
theorem test_append_and_splice :
    let s := listed .good 1
    ((after (.craneAppend 1#8 0#8 [{ entryVals with hostTag := 9#16 }]) s).link 0).list.map (·.hostTag) = [7#16, 9#16] ∧
    ((after (.craneSplice 1#8 0#8 [{ entryVals with hostTag := 9#16 }]) s).link 0).list.map (·.hostTag) =
      [9#16, 7#16] := by decide +kernel

/-- The premises of CRANE SPLICE, CRANE FLUSH and CRANE INTERLOCK. -/
theorem test_meets_list_commands : Ready (listed .good 49) ∧ ((listed .good 49).link 0).mode ≠ .closed ∧
    ((listed .good 49).link 23).mode = .closed := ⟨ready_of (by decide +kernel), by decide +kernel⟩

theorem test_meets_crane_test : Ready yard ∧ (yard.link 1).mode = .standby ∧ (yard.link 1).health = .good ∧
    holdInForce yard = false ∧ (yard.link 0).mode ≠ .standby ∧ holdInForce { yard with holdin := true } = true :=
  ⟨yard_ready, by decide +kernel⟩

/-- The yard with link 8 open, LOST and unplaced. -/
def astray : State :=
  let s := (opened 8 ⟨3, 9, .two, 1⟩ .standby yard).setResv 8 ⟨none, none⟩
  withRecord 8 Handover.emptyWindow (withLink 8 (fun l => { l with health := .lost, score := 255 }) s)

theorem test_meets_recover : Ready astray ∧ (astray.link 8).mode ≠ .closed ∧ (astray.link 8).health = .lost ∧
    unplaced astray 8 = true ∧ (astray.head 11).state ≠ .on ∧ (astray.head 4).state = .on ∧
    admissionSearch astray 8 4 (astray.link 8).period 1 = some ⟨4, 1, .two, 0⟩ ∧ (astray.link 0).health ≠ .lost ∧
    (astray.link 23).mode = .closed ∧ ((listed .lost 0).link 0).health = .lost ∧ unplaced (listed .lost 0) 0 = false ∧
    admissionSearch
      { astray with fs := { astray.fs with active := { astray.fs.active with
        allowed := put astray.fs.active.allowed 4 0#24 } } } 8 4 (astray.link 8).period 1 = none :=
  ⟨ready_of (by decide +kernel), by decide +kernel⟩

/-- Head 4's crane-allowed set empty. -/
def astrayBarred : State :=
  { astray with fs := { astray.fs with active := { astray.fs.active with allowed := put astray.fs.active.allowed 4 0#24 } } }

theorem test_meets_recover_admission : FirstAdmissible astray 8 4 (astray.link 8).period 1 ⟨4, 1, .two, 0⟩ ∧
    ∀ p : Place, p.head = 4 → p.period = (astrayBarred.link 8).period → p.phase < p.period.frames →
      admissible astrayBarred 8 p = false :=
  ⟨firstAdmissible_of (by decide +kernel) (by decide +kernel), noPlace_of (by decide +kernel)⟩

theorem test_recover : ((after (.craneRecover 1#8 8#8 4#8) astray).link 8).health = .recovering ∧
    ((after (.craneRecover 1#8 8#8 4#8) astray).record 8).bind (·.centre) = some 4 := by decide +kernel

theorem test_meets_move : Ready astray ∧ (astray.link 23).mode = .closed ∧ unplaced astray 8 = true ∧
    unplaced astray 0 = false ∧ (astray.record 1).map (·.state) = some .dual ∧
    (astray.record 0).map (·.state) = some .settled ∧ servingHead astray 0 = some 3 ∧ (astray.head 11).state ≠ .on ∧
    (astray.head 4).state = .on ∧ 24 ≤ (24#8).toNat ∧ 12 ≤ (12#8).toNat := ⟨ready_of (by decide +kernel), by decide +kernel⟩

theorem test_meets_move_target : TargetFound astray 0 4 ⟨4, 1, .one, 0⟩ ∧ Ready (qualified 0#24) ∧
    NoTarget (qualified 0#24) 0 4 :=
  ⟨targetFound_iff.mpr (by decide +kernel), ready_of (by decide +kernel), noTarget_iff.mpr (by decide +kernel)⟩

theorem test_meets_filters_and_profiles : Ready yard ∧ 8 ≤ (8#8).toNat ∧ 4 ≤ (4#8).toNat ∧
    (7#8).toNat = (7 : Fin 8).1 ∧ (3#8).toNat = (3 : Fin 4).1 := ⟨yard_ready, by decide⟩

theorem test_profile_clamped :
    (after (.profileSet 1#8 3#8 (some 0#16) (some 30001#16) (some 101#8) none none none) yard).reg.profiles.get 3 =
      ⟨1, 30000, 100, 30, 3, 23438⟩ := by decide +kernel

/-- The premises of UNIT RELEASE and ALARM ACK are those of UNIT QUERY. -/
theorem test_release : ((after (.unitRelease 1#8 (.unitId 77#32)) yard).unit 0) = UnitEntry.free := by decide +kernel

theorem test_alarm_ack :
    let s := yard.setUnit 0 { yard.unit 0 with live := 1#4, latched := 5#4 }
    ((after (.alarmAck 1#8 (.index 0#32) 0xFF#8) s).unit 0).latched = 1#4 := by decide +kernel

theorem test_fetch : ((after (.fetchAlarms 1#8 0#8) { yard with rep := { yard.rep with
    alarms := [⟨1#32, 0, .unit, ⟨0#16, 0, 1⟩, none⟩, ⟨2#32, 0, .unit, ⟨0#16, 0, 1⟩, none⟩] } }).rep.alarms.map
      (·.unitId)) = [2#32] := by decide +kernel

theorem test_meets_measurement : (1 : Nat) ≤ 3 ∧ 255 ≤ 255 ∧ 4080 ≤ 4080 ∧ 1592 ≤ 16 * 100 ∧ 16 * 92 ≤ 1592 := by decide

end Sys2Proof.Tests
end

section
/-! SUPPORT. The reservation table by link and role, and what admissions, releases and promotions leave of its law
(R15, R62 to R65). -/

namespace Sys2Proof.Machine

/-! ## Reading the table -/

/-- The reservation a link holds in a role (R62). -/
def Held.of (r : Held) : Role → Option Place
  | .primary => r.primary
  | .target => r.target

@[simp] theorem Held.of_primary (r : Held) : r.of .primary = r.primary := rfl
@[simp] theorem Held.of_target (r : Held) : r.of .target = r.target := rfl

theorem mem_table {s : State} {r : Reservation} : r ∈ table s ↔ (s.resv r.link).of r.role = some r.place := by
  obtain ⟨x, role, p⟩ := r
  cases role <;> simp [table, linkReservations]

theorem table_congr {s u : State} (h : u.fs.resv = s.fs.resv) : table u = table s := by
  unfold table linkReservations State.resv
  rw [h]

theorem naming_congr {s u : State} (e : u.fs.resv = s.fs.resv) (h : HeadNo) : naming u h = naming s h := by
  unfold naming
  rw [table_congr e]

theorem naming_eq_nil {s : State} {h : HeadNo} :
    naming s h = [] ↔ ∀ x role p, (s.resv x).of role = some p → p.head ≠ h := by
  simp only [naming, List.filter_eq_nil_iff, mem_table, beq_iff_eq]
  exact ⟨fun k x role p => k ⟨x, role, p⟩, fun k r => k r.link r.role r.place⟩

/-! ## Collisions -/

theorem dist_comm (a b : HeadNo) : dist a b = dist b a := by unfold dist; omega

theorem collide_comm (p q : Place) : collide p q = collide q p := by
  unfold collide
  rw [dist_comm, Nat.min_comm, Bool.beq_comm (a := p.slot), Bool.beq_comm (a := p.phase % _)]

/-- The table law over links and roles. -/
theorem tableLaw_iff {s : State} : TableLaw s ↔ ∀ x a p y b q, (s.resv x).of a = some p → (s.resv y).of b = some q →
    ¬ (x = y ∧ a = b) → collide p q = false := by
  constructor
  · intro law x a p y b q hp hq ne
    exact law ⟨x, a, p⟩ (mem_table.mpr hp) ⟨y, b, q⟩ (mem_table.mpr hq) (by simp only [ne_eq, Reservation.mk.injEq]; tauto)
  · intro law r hr q hq ne
    rw [mem_table] at hr hq
    refine law _ _ _ _ _ _ hr hq ?_
    rintro ⟨hl, ha⟩
    rw [← hl, ← ha, hr] at hq
    exact ne (by cases r; cases q; simp_all)

/-- R65: what an admissible place fulfils. -/
theorem admissible_iff {s : State} {x : LinkNo} {p : Place} : admissible s x p = true ↔ (s.head p.head).state = .on ∧
    (s.fs.active.allowed.get p.head).getLsbD p.slot.1 = true ∧ p.slot.1 ≠ 0 ∧
    (∀ r ∈ table s, collide p r.place = false) ∧ (linkReservations s x).length < 2 := by
  simp [admissible, and_assoc]

theorem admissible_apart {s : State} {x : LinkNo} {p : Place} (h : admissible s x p = true) {y : LinkNo} {b : Role}
    {q : Place} (hq : (s.resv y).of b = some q) : collide p q = false :=
  (admissible_iff.mp h).2.2.2.1 ⟨y, b, q⟩ (mem_table.mpr hq)

theorem admissible_on {s : State} {x : LinkNo} {p : Place} (h : admissible s x p = true) : (s.head p.head).state = .on :=
  (admissible_iff.mp h).1

/-! ## One link's reservations change -/

/-- The reservations of link `x` become `r`: what each role holds was held in that role, or is an admissible place in
the one role `a`. -/
def Admits (s : State) (x : LinkNo) (a : Role) (r : Held) : Prop :=
  (∀ b p, b ≠ a → r.of b = some p → (s.resv x).of b = some p) ∧
    ∀ p, r.of a = some p → (s.resv x).of a = some p ∨ admissible s x p = true

/-- An admission into one role and any release keep the table free of collisions (R15, R65). -/
theorem tableLaw_setResv {s : State} {x : LinkNo} {a : Role} {r : Held} (law : TableLaw s) (h : Admits s x a r) :
    TableLaw (s.setResv x r) := by
  rw [tableLaw_iff] at *
  have new : ∀ y b p, ((s.setResv x r).resv y).of b = some p → (s.resv y).of b = some p ∨
      y = x ∧ b = a ∧ admissible s x p = true := by
    intro y b p hp
    rw [State.resv_setResv] at hp
    split at hp
    · subst y
      by_cases e : b = a
      · subst e
        exact (h.2 p hp).imp id fun k => ⟨rfl, rfl, k⟩
      · exact .inl (h.1 b p e hp)
    · exact .inl hp
  intro y b p z c q hp hq ne
  rcases new y b p hp with op | ⟨rfl, rfl, ap⟩ <;> rcases new z c q hq with oq | ⟨rfl, rfl, aq⟩
  · exact law y b p z c q op oq ne
  · rw [collide_comm]
    exact admissible_apart aq op
  · exact admissible_apart ap oq
  · exact absurd ⟨rfl, rfl⟩ ne

/-- A TARGET that becomes the PRIMARY keeps the table free of collisions (R65). -/
theorem tableLaw_promote {s : State} (x : LinkNo) (law : TableLaw s) : TableLaw (promote x s) := by
  rw [tableLaw_iff] at *
  have old : ∀ y b p, ((promote x s).resv y).of b = some p →
      (s.resv y).of (if y = x then .target else b) = some p ∧ (y = x → b = .primary) := by
    intro y b p hp
    rw [promote, State.resv_setResv] at hp
    split at hp
    · subst y
      cases b <;> simp_all
    · rename_i ne
      exact ⟨by simpa [Ne.symm ne] using hp, fun e => absurd e.symm ne⟩
  intro y b p z c q hp hq ne
  obtain ⟨op, bp⟩ := old y b p hp
  obtain ⟨oq, bq⟩ := old z c q hq
  refine law _ _ _ _ _ _ op oq ?_
  rintro ⟨rfl, e⟩
  by_cases k : y = x
  · exact ne ⟨rfl, (bp k).trans (bq k).symm⟩
  · simp only [k, if_false] at e
    exact ne ⟨rfl, e⟩

/-- A head that is not ON and that no reservation names is named by none after an admission or a release. -/
theorem naming_setResv {s : State} {x : LinkNo} {a : Role} {r : Held} (h : Admits s x a r) {g : HeadNo}
    (off : (s.head g).state ≠ .on) (none : naming s g = []) : naming (s.setResv x r) g = [] := by
  rw [naming_eq_nil] at *
  intro y b p hp
  rw [State.resv_setResv] at hp
  split at hp
  · by_cases e : b = a
    · subst e
      rcases h.2 p hp with old | new
      · exact none _ _ _ old
      · rintro rfl
        exact off (admissible_on new)
    · exact none _ _ _ (h.1 b p e hp)
  · exact none _ _ _ hp

theorem naming_promote {s : State} (x : LinkNo) {g : HeadNo} (none : naming s g = []) : naming (promote x s) g = [] := by
  rw [naming_eq_nil] at *
  intro y b p hp
  rw [promote, State.resv_setResv] at hp
  split at hp
  · cases b
    · exact none x .target p hp
    · simp at hp
  · exact none _ _ _ hp

/-! ## The forms in which the model changes reservations -/

theorem admits_release_primary (s : State) (x : LinkNo) : Admits s x .primary { s.resv x with primary := none } :=
  ⟨fun b p ne h => by cases b <;> simp_all, fun p h => by simp at h⟩

theorem admits_release_target (s : State) (x : LinkNo) : Admits s x .target { s.resv x with target := none } :=
  ⟨fun b p ne h => by cases b <;> simp_all, fun p h => by simp at h⟩

theorem admits_primary {s : State} {x : LinkNo} {p : Place} (h : admissible s x p = true) :
    Admits s x .primary { s.resv x with primary := some p } :=
  ⟨fun b q ne k => by cases b <;> simp_all, fun q k => by cases k; exact .inr h⟩

theorem admits_target {s : State} {x : LinkNo} {p : Place} (h : admissible s x p = true) :
    Admits s x .target { s.resv x with target := some p } :=
  ⟨fun b q ne k => by cases b <;> simp_all, fun q k => by cases k; exact .inr h⟩

theorem admits_only {s : State} {x : LinkNo} {p : Place} (h : admissible s x p = true) :
    Admits s x .primary ⟨some p, none⟩ :=
  ⟨fun b q ne k => by cases b <;> simp_all, fun q k => by cases k; exact .inr h⟩

/-! ## The searches answer admissible places (R66, R67) -/

theorem targetSearch_admissible {s : State} {x : LinkNo} {h : HeadNo} {p : Place} (k : targetSearch s x h = some p) :
    admissible s x p = true := List.find?_some k

theorem admissionSearch_admissible {s : State} {x : LinkNo} {h : HeadNo} {period : Period} {sl : SlotNo} {p : Place}
    (k : admissionSearch s x h period sl = some p) : admissible s x p = true := List.find?_some k

theorem firstAdmitted_admissible {s : State} {x : LinkNo} {heads : List (HeadNo × Int)} {p : Place}
    (k : firstAdmitted s x heads = some p) : admissible s x p = true := by
  obtain ⟨h, -, hs⟩ := List.exists_of_findSome?_eq_some k
  exact targetSearch_admissible hs

end Sys2Proof.Machine
end

section
/-! SUPPORT. The slot map under releases (R21) and as a frame start builds it (R16 to R18), and the reuse law of both
(R15, R17). -/

namespace Sys2Proof.Machine

/-! ## Releases in the map (R21) -/

theorem mem_adjacent {g h : HeadNo} : h ∈ adjacent g ↔ dist h g = 1 := by
  rw [dist_comm, dist_one]
  simp [adjacent]

theorem unstarted_iff {s : State} {sl : SlotNo} :
    unstarted s sl = true ↔ s.fs.now.slot < sl ∨ s.fs.now.slot = sl ∧ s.fs.slotStarted = false := by
  simp only [unstarted, State.now, Bool.or_eq_true, Bool.and_eq_true, beq_iff_eq, Bool.not_eq_true']
  exact or_congr_left decide_eq_true_iff

/-- A release of link `x` at place `p` finds the link's CRANE cell there, its slot not started (R21). -/
def Quiets (s : State) (x : LinkNo) (p : Place) : Prop :=
  unstarted s p.slot = true ∧ ∃ r, s.cell p.head p.slot = .crane x r

theorem quiets_iff {s : State} {x : LinkNo} {p : Place} :
    (unstarted s p.slot && (s.cell p.head p.slot == .crane x .primary || s.cell p.head p.slot == .crane x .target)) = true ↔
      Quiets s x p := by
  simp only [Quiets, Bool.and_eq_true, Bool.or_eq_true, beq_iff_eq]
  refine and_congr_right fun _ => ⟨fun h => h.elim (⟨_, ·⟩) (⟨_, ·⟩), ?_⟩
  rintro ⟨_ | _, h⟩
  · exact .inl h
  · exact .inr h

/-- The LISTEN cells of one link in one slot turn QUIET on the heads listed. -/
theorem cell_quietListens (x : LinkNo) (sl : SlotNo) (l : List HeadNo) (s : State) (g : HeadNo) (tl : SlotNo) :
    (forEach l (fun h s => if s.cell h sl = .listen x then s.setCell h sl .quiet else s) s).cell g tl =
      if g ∈ l ∧ tl = sl ∧ s.cell g tl = .listen x then .quiet else s.cell g tl := by
  induction l generalizing s with
  | nil => simp
  | cons h l ih =>
    rw [forEach_cons, ih]
    by_cases e : s.cell h sl = .listen x
    · rw [if_pos e, State.cell_setCell]
      by_cases k : h = g ∧ sl = tl
      · obtain ⟨rfl, rfl⟩ := k
        simp [e]
      · have : ¬ (g = h ∧ tl = sl) := fun m => k ⟨m.1.symm, m.2.symm⟩
        simp only [if_neg k, List.mem_cons]
        grind
    · rw [if_neg e]
      simp only [List.mem_cons]
      grind

/-- What a release makes of every cell (R21). -/
theorem cell_quietCells (x : LinkNo) (p : Place) (s : State) (h : HeadNo) (sl : SlotNo) :
    (Quiets s x p ∧ sl = p.slot ∧ (h = p.head ∨ dist h p.head = 1 ∧ s.cell h sl = .listen x) →
      (quietCells x p s).cell h sl = .quiet) ∧
    (¬ (Quiets s x p ∧ sl = p.slot ∧ (h = p.head ∨ dist h p.head = 1 ∧ s.cell h sl = .listen x)) →
      (quietCells x p s).cell h sl = s.cell h sl) := by
  unfold quietCells
  split
  · rename_i q
    rw [quiets_iff] at q
    rw [cell_quietListens, State.cell_setCell]
    have near : h ∈ adjacent p.head ↔ dist h p.head = 1 := mem_adjacent
    have apart : dist h p.head = 1 → p.head ≠ h := by rintro k rfl; simp [dist] at k
    grind
  · rename_i q
    rw [quiets_iff] at q
    exact ⟨fun k => absurd k.1 q, fun _ => rfl⟩

/-- A release acts on the map alone. -/
theorem quietCells_frame (x : LinkNo) (p : Place) (s : State) :
    quietCells x p s = { s with fs := { s.fs with map := (quietCells x p s).fs.map } } := by
  unfold quietCells
  split
  · refine forEach_keeps (P := fun t => t = { s with fs := { s.fs with map := t.fs.map } }) _ ?_ rfl
    intro h _ t ht
    dsimp only
    split
    · rw [ht]; rfl
    · exact ht
  · rfl

/-! ## The laws of a map -/

theorem reuse_cells {s : State} : Reuse s.fs.map ↔ ∀ (sl : SlotNo) (a b : HeadNo), sl ≠ 0 → a ≠ b →
    (s.cell a sl).isExchange = true → (s.cell b sl).isExchange = true → 3 ≤ dist a b := .rfl

theorem listens_cells {s : State} : Listens s.fs.map ↔ ∀ (h : HeadNo) (sl : SlotNo) (x : LinkNo),
    s.cell h sl = .listen x → ∃ g r, dist g h = 1 ∧ s.cell g sl = .crane x r := .rfl

/-- A cell after a release is the one before, or QUIET. -/
theorem cell_quietCells_or (x : LinkNo) (p : Place) (s : State) (h : HeadNo) (sl : SlotNo) :
    (quietCells x p s).cell h sl = .quiet ∨ (quietCells x p s).cell h sl = s.cell h sl :=
  (Classical.em _).imp (cell_quietCells x p s h sl).1 (cell_quietCells x p s h sl).2

theorem reuse_quietCells (x : LinkNo) (p : Place) {s : State} (law : Reuse s.fs.map) :
    Reuse (quietCells x p s).fs.map := by
  rw [reuse_cells] at *
  have was : ∀ h sl, ((quietCells x p s).cell h sl).isExchange = true → (s.cell h sl).isExchange = true := by
    intro h sl k
    rcases cell_quietCells_or x p s h sl with e | e <;> rw [e] at k
    · cases k
    · exact k
  exact fun sl a b h0 ne ha hb => law sl a b h0 ne (was a sl ha) (was b sl hb)

/-- A LISTEN cell of the link released loses its CRANE cell only together with itself. -/
theorem listens_quietCells (x : LinkNo) (p : Place) {s : State} (law : Listens s.fs.map) :
    Listens (quietCells x p s).fs.map := by
  rw [listens_cells] at *
  intro h sl y hy
  have stood : ¬ (Quiets s x p ∧ sl = p.slot ∧ (h = p.head ∨ dist h p.head = 1 ∧ s.cell h sl = .listen x)) := by
    intro k
    rw [(cell_quietCells x p s h sl).1 k] at hy
    cases hy
  rw [(cell_quietCells x p s h sl).2 stood] at hy
  obtain ⟨g, r, near, crane⟩ := law h sl y hy
  refine ⟨g, r, near, ?_⟩
  rw [(cell_quietCells x p s g sl).2 ?_, crane]
  rintro ⟨q, rfl, rfl | ⟨-, k⟩⟩
  · obtain ⟨r', hr'⟩ := q.2
    rw [crane] at hr'
    cases hr'
    exact stood ⟨q, rfl, .inr ⟨by rw [dist_comm]; exact near, hy⟩⟩
  · rw [crane] at k
    cases k

/-! ## The map of a frame start (R16 to R18) -/

theorem slot_ne_zero {sl : SlotNo} : sl.1 ≠ 0 ↔ sl ≠ 0 := ⟨fun h e => h (e ▸ rfl), fun h e => h (Fin.ext e)⟩

@[simp] theorem cell_buildMap (s : State) (f : Fin 16) (h : HeadNo) (sl : SlotNo) :
    ((buildMap s f).get h).get sl = buildCell s f h sl := by
  simp [buildMap, Vector.get_eq_getElem]

theorem dueAt_some {s : State} {f : Fin 16} {h : HeadNo} {sl : SlotNo} {r : Reservation} (k : dueAt s f h sl = some r) :
    r ∈ table s ∧ r.place.head = h ∧ r.place.slot = sl ∧ due r.place f = true := by
  have hp := List.find?_some k
  simp only [Bool.and_eq_true, beq_iff_eq] at hp
  exact ⟨List.mem_of_find?_eq_some k, hp.1.1, hp.1.2, hp.2⟩

theorem dueAt_none {s : State} {f : Fin 16} {h : HeadNo} {sl : SlotNo} :
    dueAt s f h sl = none ↔ ∀ r ∈ table s, r.place.slot = sl → due r.place f = true → r.place.head ≠ h := by
  simp only [dueAt, List.find?_eq_none, Bool.and_eq_true, beq_iff_eq]
  exact forall₂_congr fun r _ => by tauto

theorem Period.frames_dvd (a b : Period) : min a.frames b.frames ∣ a.frames := by cases a <;> cases b <;> decide

/-- Two reservations of one slot due in one frame on heads at most 2 apart collide (R63, R64). -/
theorem collide_of_due {p q : Place} {f : Fin 16} (slot : p.slot = q.slot) (near : dist p.head q.head ≤ 2)
    (hp : due p f = true) (hq : due q f = true) : collide p q = true := by
  simp only [due, beq_iff_eq] at hp hq
  simp only [collide, slot, near, decide_true, Bool.and_true, beq_self_eq_true, Bool.true_and, beq_iff_eq]
  rw [← hp, ← hq, Nat.mod_mod_of_dvd _ (p.period.frames_dvd q.period)]
  rw [Nat.min_comm, Nat.mod_mod_of_dvd _ (q.period.frames_dvd p.period)]

/-- In a table free of collisions the reservations due in one frame and slot on near heads are one. -/
theorem due_unique {s : State} (law : TableLaw s) {f : Fin 16} {r q : Reservation} (hr : r ∈ table s) (hq : q ∈ table s)
    (slot : r.place.slot = q.place.slot) (near : dist r.place.head q.place.head ≤ 2) (dr : due r.place f = true)
    (dq : due q.place f = true) : r = q := by
  by_contra ne
  have := law r hr q hq ne
  rw [collide_of_due slot near dr dq] at this
  cases this

theorem dueAt_of_mem {s : State} (law : TableLaw s) {f : Fin 16} {r : Reservation} (hr : r ∈ table s)
    (dr : due r.place f = true) : dueAt s f r.place.head r.place.slot = some r := by
  cases k : dueAt s f r.place.head r.place.slot with
  | none => exact absurd rfl (dueAt_none.mp k r hr rfl dr)
  | some q =>
    obtain ⟨hq, head, slot, dq⟩ := dueAt_some k
    rw [due_unique law hr hq slot.symm (by rw [head]; simp [dist]) dr dq]

theorem craneNear_iff {s : State} {f : Fin 16} {h : HeadNo} {sl : SlotNo} : craneNear s f h sl = true ↔
    ∃ r ∈ table s, r.place.slot = sl ∧ dist r.place.head h ≤ 2 ∧ due r.place f = true := by
  simp [craneNear, and_assoc]

/-- R18: what makes a cell reefer-eligible. -/
theorem eligible_iff {s : State} {f : Fin 16} {h : HeadNo} {sl : SlotNo} : eligible s f h sl = true ↔ sl ≠ 0 ∧
    (s.head h).state = .on ∧ s.fs.active.slotGroup.get sl = s.fs.active.headGroup.get h ∧
    ∀ r ∈ table s, r.place.slot = sl → due r.place f = true → 3 ≤ dist r.place.head h := by
  have near : craneNear s f h sl = false ↔
      ∀ r ∈ table s, r.place.slot = sl → due r.place f = true → 3 ≤ dist r.place.head h := by
    rw [← Bool.not_eq_true, craneNear_iff]
    constructor
    · intro k r hr hs hd
      by_contra c
      exact k ⟨r, hr, hs, by omega, hd⟩
    · rintro k ⟨r, hr, hs, hn, hd⟩
      have := k r hr hs hd
      omega
  simp only [eligible, Bool.and_eq_true, bne_iff_ne, beq_iff_eq, Bool.not_eq_true', near, slot_ne_zero, and_assoc]

/-- The cells outside slot 0, branch by branch (R16 to R19). -/
theorem buildCell_crane {s : State} {f : Fin 16} {h : HeadNo} {sl : SlotNo} (h0 : sl ≠ 0) {r : Reservation}
    (k : dueAt s f h sl = some r) : buildCell s f h sl = .crane r.link r.role := by
  simp only [buildCell, slot_ne_zero.mpr h0, k, if_false]

theorem buildCell_free {s : State} {f : Fin 16} {h : HeadNo} {sl : SlotNo} (h0 : sl ≠ 0) (k : dueAt s f h sl = none) :
    buildCell s f h sl = if inService s h = true then
      match listensTo s f h sl with
      | some x => .listen x
      | none => if eligible s f h sl = true then reeferCell s f h sl else .quiet
    else .off := by
  simp only [buildCell, slot_ne_zero.mpr h0, k, if_false]
  cases inService s h <;> rfl

theorem reeferCell_or (s : State) (f : Fin 16) (h : HeadNo) (sl : SlotNo) :
    (∃ u id, reeferCell s f h sl = .poll u id) ∨ reeferCell s f h sl = .contention := by
  unfold reeferCell
  dsimp only
  split
  · split
    · exact .inl ⟨_, _, rfl⟩
    · exact .inr rfl
  · exact .inr rfl

theorem listensTo_some {s : State} {f : Fin 16} {h : HeadNo} {sl : SlotNo} {x : LinkNo}
    (k : listensTo s f h sl = some x) : ∃ r ∈ table s, r.link = x ∧ dist r.place.head h = 1 ∧ r.place.slot = sl ∧
      due r.place f = true ∧ dueAt s f r.place.head sl = some r := by
  obtain ⟨a, ha, hr⟩ := List.exists_of_findSome?_eq_some k
  obtain ⟨r, hd, rfl⟩ := Option.map_eq_some_iff.mp hr
  obtain ⟨hm, rfl, hs, df⟩ := dueAt_some hd
  exact ⟨r, hm, rfl, mem_adjacent.mp ha, hs, df, hd⟩

/-- An exchange cell of the map built is that of a due reservation, or a reefer-eligible one. -/
theorem buildCell_exchange {s : State} {f : Fin 16} {h : HeadNo} {sl : SlotNo} (h0 : sl ≠ 0)
    (k : (buildCell s f h sl).isExchange = true) :
    (∃ r, dueAt s f h sl = some r) ∨ dueAt s f h sl = none ∧ eligible s f h sl = true := by
  cases hd : dueAt s f h sl with
  | some r => exact .inl ⟨r, rfl⟩
  | none =>
    rw [buildCell_free h0 hd] at k
    refine .inr ⟨rfl, ?_⟩
    split at k
    · split at k
      · cases k
      · split at k
        · assumption
        · cases k
    · cases k

theorem buildCell_listen {s : State} {f : Fin 16} {h : HeadNo} {sl : SlotNo} {x : LinkNo}
    (k : buildCell s f h sl = .listen x) : sl ≠ 0 ∧ listensTo s f h sl = some x := by
  have h0 : sl ≠ 0 := by
    rintro rfl
    simp only [buildCell, Fin.val_zero, if_true] at k
    split at k <;> cases k
  refine ⟨h0, ?_⟩
  cases hd : dueAt s f h sl with
  | some r =>
    rw [buildCell_crane h0 hd] at k
    cases k
  | none =>
    rw [buildCell_free h0 hd] at k
    split at k
    · split at k
      · cases k; assumption
      · split at k
        · rcases reeferCell_or s f h sl with ⟨u, id, e⟩ | e <;> rw [e] at k <;> cases k
        · cases k
    · cases k

/-- R11: with the group spacing two heads of one group are at least 3 apart. -/
theorem spacing_apart {p : Plan} (law : spacingFault p = none) {a b : HeadNo} (ne : a ≠ b)
    (same : p.headGroup.get a = p.headGroup.get b) : 3 ≤ dist a b := by
  have pair : ∀ c d : HeadNo, spacingFails p c d = false := by
    intro c d
    have := List.find?_eq_none.mp law (c, d) (by simp [headPairs])
    simpa using this
  have hab := pair a b
  have hba := pair b a
  have ne' : a.1 ≠ b.1 := fun e => ne (Fin.ext e)
  simp only [spacingFails, same, beq_self_eq_true, Bool.and_true, Bool.and_eq_false_iff, decide_eq_false_iff_not,
    Fin.lt_def] at hab hba
  unfold dist
  omega

theorem reuse_buildMap {s : State} (f : Fin 16) (law : TableLaw s) (spacing : spacingFault s.fs.active = none) :
    Reuse (buildMap s f) := by
  intro sl a b h0 ne ha hb
  rw [cell_buildMap] at ha hb
  rcases buildCell_exchange h0 ha with ⟨r, hr⟩ | ⟨-, ea⟩ <;> rcases buildCell_exchange h0 hb with ⟨q, hq⟩ | ⟨-, eb⟩
  · obtain ⟨mr, rfl, sr, dr⟩ := dueAt_some hr
    obtain ⟨mq, rfl, sq, dq⟩ := dueAt_some hq
    by_contra far
    have : r = q := due_unique law mr mq (sr.trans sq.symm) (by omega) dr dq
    exact ne (by rw [this])
  · obtain ⟨mr, rfl, sr, dr⟩ := dueAt_some hr
    exact (eligible_iff.mp eb).2.2.2 r mr sr dr
  · obtain ⟨mq, rfl, sq, dq⟩ := dueAt_some hq
    rw [dist_comm]
    exact (eligible_iff.mp ea).2.2.2 q mq sq dq
  · obtain ⟨-, -, ga, -⟩ := eligible_iff.mp ea
    obtain ⟨-, -, gb, -⟩ := eligible_iff.mp eb
    exact spacing_apart spacing ne (ga.symm.trans gb)

theorem listens_buildMap (s : State) (f : Fin 16) : Listens (buildMap s f) := by
  intro h sl x hx
  rw [cell_buildMap] at hx
  obtain ⟨h0, k⟩ := buildCell_listen hx
  obtain ⟨r, -, rfl, near, -, -, hd⟩ := listensTo_some k
  exact ⟨r.place.head, r.role, near, by rw [cell_buildMap, buildCell_crane h0 hd]⟩

/-! ## The reuse law -/

/-- The reuse law reads reservations, active plan and map alone. -/
theorem ReuseLaw.congr {s u : State} (law : ReuseLaw s) (resv : u.fs.resv = s.fs.resv)
    (active : u.fs.active = s.fs.active) (map : u.fs.map = s.fs.map) : ReuseLaw u where
  table := by
    unfold TableLaw
    rw [table_congr resv]
    exact law.table
  spacing := active ▸ law.spacing
  map := map ▸ law.map
  listen := map ▸ law.listen

theorem ReuseLaw.of_fs {s u : State} (law : ReuseLaw s) (fs : u.fs = s.fs) : ReuseLaw u :=
  law.congr (by rw [fs]) (by rw [fs]) (by rw [fs])

theorem ReuseLaw.setResv {s : State} {x : LinkNo} {a : Role} {r : Held} (law : ReuseLaw s) (h : Admits s x a r) :
    ReuseLaw (s.setResv x r) := ⟨tableLaw_setResv law.table h, law.spacing, law.map, law.listen⟩

theorem ReuseLaw.promote {s : State} (x : LinkNo) (law : ReuseLaw s) : ReuseLaw (promote x s) :=
  ⟨tableLaw_promote x law.table, law.spacing, law.map, law.listen⟩

theorem ReuseLaw.quietCells {s : State} (x : LinkNo) (p : Place) (law : ReuseLaw s) : ReuseLaw (quietCells x p s) where
  table := by
    unfold TableLaw
    rw [table_congr (by rw [quietCells_frame])]
    exact law.table
  spacing := by rw [quietCells_frame]; exact law.spacing
  map := reuse_quietCells x p law.map
  listen := listens_quietCells x p law.listen

end Sys2Proof.Machine
end

section
/-! SUPPORT. What the handling of crane links and heads can do to the rest of the machine: one relation between the
state before and after, kept by every operation of Links, Exchange and Heads. -/

namespace Sys2Proof.Machine

/-! ## What raises leave of the Control Port (R166, R168) -/

/-- On the way from `s` to `u` the Control Port has taken raises other than PLAN's, and notices, at most. -/
structure OnlyRaises (s u : State) : Prop where
  planDetail : u.cp.planDetail = s.cp.planDetail
  replies : u.cp.replies = s.cp.replies
  flags : ∀ f, flagSet s f = true → flagSet u f = true
  headSet : ∀ h : HeadNo, s.cp.headSet.getLsbD h.1 = true → u.cp.headSet.getLsbD h.1 = true

namespace OnlyRaises

theorem of_cp {s u : State} (h : u.cp = s.cp) : OnlyRaises s u where
  planDetail := by rw [h]
  replies := by rw [h]
  flags := by unfold flagSet; rw [h]; exact fun _ => id
  headSet := by rw [h]; exact fun _ => id

theorem refl (s : State) : OnlyRaises s s := of_cp rfl

theorem trans {s u v : State} (h : OnlyRaises s u) (k : OnlyRaises u v) : OnlyRaises s v where
  planDetail := k.planDetail.trans h.planDetail
  replies := k.replies.trans h.replies
  flags f e := k.flags f (h.flags f e)
  headSet g e := k.headSet g (h.headSet g e)

theorem headSeen {s u : State} (h : OnlyRaises s u) {g : HeadNo} (k : HeadSeen s g) : HeadSeen u g :=
  ⟨h.flags _ k.1, h.headSet g k.2⟩

end OnlyRaises

theorem onlyRaises_raise (t : Time) (f : Flag) (o : Byte) (s : State) : OnlyRaises s (raise t f o s) where
  planDetail := by rw [raise_cp]
  replies := by rw [raise_cp]
  flags g h := by rw [flagSet_raise, h]; rfl
  headSet g h := by rw [raise_cp]; exact h

theorem onlyRaises_raiseHead (t : Time) (h : HeadNo) (s : State) : OnlyRaises s (raiseHead t h s) :=
  OnlyRaises.trans (u := { s with cp := { s.cp with headSet := addMember s.cp.headSet h.1 } })
    ⟨rfl, rfl, fun _ => id, fun g k => by simp only [getLsbD_addMember, k]; rfl⟩ (onlyRaises_raise ..)

theorem onlyRaises_raiseCrane (t : Time) (x : LinkNo) (s : State) : OnlyRaises s (raiseCrane t x s) :=
  OnlyRaises.trans (u := { s with cp := { s.cp with craneSet := addMember s.cp.craneSet x.1 } })
    ⟨rfl, rfl, fun _ => id, fun _ => id⟩ (onlyRaises_raise ..)

theorem onlyRaises_offerNotice (m : Message) (s : State) : OnlyRaises s (offerNotice m s) := by
  rcases offerNotice_cp m s with ⟨e, -⟩ | ⟨e, -⟩
  · exact ⟨by rw [e], by rw [e], fun f h => by unfold flagSet; rw [e]; exact h, fun h k => by rw [e]; exact k⟩
  · exact ⟨by rw [e], by rw [e], fun f h => by unfold flagSet; rw [e]; exact h, fun h k => by rw [e]; exact k⟩

/-- A raise of HEAD for head `h` is seen (R166). -/
theorem headSeen_raiseHead (t : Time) (h : HeadNo) (s : State) : HeadSeen (raiseHead t h s) h := by
  refine ⟨?_, ?_⟩
  · rw [raiseHead, flagSet_raise]; simp
  · rw [raiseHead, raise_cp]; simp [getLsbD_addMember]

/-- A raise of CRANE for link `x` is seen (R166). -/
theorem craneSeen_raiseCrane (t : Time) (x : LinkNo) (s : State) : CraneSeen (raiseCrane t x s) x := by
  refine ⟨?_, ?_⟩
  · rw [raiseCrane, flagSet_raise]; simp
  · rw [raiseCrane, raise_cp]; simp [getLsbD_addMember]

/-- The three raises with a detail set act on the Control Port alone. -/
theorem raiseHead_port (t : Time) (h : HeadNo) (s : State) :
    raiseHead t h s = { s with cp := (raiseHead t h s).cp } := by
  rw [raiseHead, raise_port]

theorem raiseCrane_port (t : Time) (x : LinkNo) (s : State) :
    raiseCrane t x s = { s with cp := (raiseCrane t x s).cp } := by
  rw [raiseCrane, raise_port]

theorem raiseListLow_port (t : Time) (x : LinkNo) (s : State) :
    raiseListLow t x s = { s with cp := (raiseListLow t x s).cp } := by
  rw [raiseListLow, raise_port]

/-! ## What an event leaves of a head that is not its own -/

/-- A head record after drain completion (R34, R29). -/
def HeadRecord.drained (r : HeadRecord) : HeadRecord :=
  { r with state := .off, drainTimer := 0, drainOutcome := .completed, outOfService := true }

/-- Head `h` in `u` as a drain completion leaves it (R34): no reservation names it, HEAD is raised for it and no unit is
served there. -/
structure DrainDone (h : HeadNo) (u : State) : Prop where
  bare : naming u h = []
  seen : HeadSeen u h
  unserved : ∀ v, (u.unit v).serving ≠ some h

/-- From `s` to `u` head `h` has kept its record, or has completed its drain; reservations and units come to it only
while it is ON. -/
structure HeadStep (h : HeadNo) (s u : State) : Prop where
  record : u.head h = s.head h ∨ (s.head h).state = .draining ∧ u.head h = (s.head h).drained ∧ DrainDone h u
  bare : (s.head h).state ≠ .on → naming s h = [] → naming u h = []
  seen : HeadSeen s h → HeadSeen u h
  unserved : (∀ v, (s.unit v).serving ≠ some h) → ∀ v, (u.unit v).serving ≠ some h

theorem HeadStep.refl (h : HeadNo) (s : State) : HeadStep h s s := ⟨.inl rfl, fun _ => id, id, id⟩

theorem HeadStep.trans {h : HeadNo} {s u v : State} (a : HeadStep h s u) (b : HeadStep h u v) : HeadStep h s v where
  record := by
    rcases a.record with ka | ⟨da, ka, fa⟩ <;> rcases b.record with kb | ⟨db, kb, fb⟩
    · exact .inl (kb.trans ka)
    · exact .inr ⟨ka ▸ db, ka ▸ kb, fb⟩
    · have off : (u.head h).state ≠ .on := by simp [ka, HeadRecord.drained]
      exact .inr ⟨da, kb.trans ka, b.bare off fa.bare, b.seen fa.seen, b.unserved fa.unserved⟩
    · rw [ka] at db
      cases db
  bare off none := by
    refine b.bare ?_ (a.bare off none)
    rcases a.record with ka | ⟨-, ka, -⟩
    · rwa [ka]
    · simp [ka, HeadRecord.drained]
  seen k := b.seen (a.seen k)
  unserved k := b.unserved (a.unserved k)

/-! ## What the handling of links leaves of the rest -/

/-- From `s` to `u` links have been handled: reservations, map, head records, the marks of the slot in progress and the
homes of units may have changed, the heads in `P` as `HeadStep` has it; the rest of the Frame Scheduler, the Head Port
Array and the Registry, and the Report Unit, stand, and the reuse law is kept (R15, R17). -/
structure Handling (P : HeadNo → Prop) (s u : State) : Prop where
  heads : ∀ h, P h → HeadStep h s u
  port : OnlyRaises s u
  fs : u.fs = { s.fs with resv := u.fs.resv, map := u.fs.map }
  hp : u.hp = { s.hp with heads := u.hp.heads, openSlot := u.hp.openSlot }
  idle : s.hp.openSlot = none → u.hp.openSlot = none
  reg : u.reg = { s.reg with units := u.reg.units }
  rep : u.rep = s.rep
  reuse : ReuseLaw s → ReuseLaw u

namespace Handling

variable {P : HeadNo → Prop} {s u v : State}

theorem refl (P : HeadNo → Prop) (s : State) : Handling P s s :=
  ⟨fun h _ => .refl h s, .refl s, rfl, rfl, id, rfl, rfl, id⟩

theorem trans (a : Handling P s u) (b : Handling P u v) : Handling P s v where
  heads h k := (a.heads h k).trans (b.heads h k)
  port := a.port.trans b.port
  fs := by rw [b.fs, a.fs]
  hp := by rw [b.hp, a.hp]
  idle k := b.idle (a.idle k)
  reg := by rw [b.reg, a.reg]
  rep := b.rep.trans a.rep
  reuse k := b.reuse (a.reuse k)

/-- An operation on links, handover records and settings, with raises, is a handling of links. -/
theorem of_same (fs : u.fs = s.fs) (hp : u.hp = s.hp) (reg : u.reg = s.reg) (rep : u.rep = s.rep)
    (port : OnlyRaises s u) : Handling P s u where
  heads h _ := ⟨.inl (by unfold State.head; rw [hp]), fun _ k => (naming_congr (by rw [fs]) h).trans k,
    port.headSeen, fun k v => by unfold State.unit; rw [reg]; exact k v⟩
  port := port
  fs := by rw [fs]
  hp := by rw [hp]
  idle k := by rw [hp, k]
  reg := by rw [reg]
  rep := rep
  reuse law := law.of_fs fs

/-- Of a repetition every member of which handles links. -/
theorem forEach {α : Type} {f : α → State → State} (l : List α) (k : ∀ a s, Handling P s (f a s)) (s : State) :
    Handling P s (forEach l f s) :=
  forEach_keeps (P := fun u => Handling P s u) l (fun a _ u h => h.trans (k a u)) (.refl P s)

theorem forLinks {f : LinkNo → State → State} (k : ∀ x s, Handling P s (f x s)) (s : State) :
    Handling P s (forLinks f s) := forEach _ k s

end Handling

/-! ## Plain updates -/

section
variable (P : HeadNo → Prop) (s : State)

theorem handling_updateLink (x : LinkNo) (f : Link → Link) : Handling P s (updateLink x f s) :=
  .of_same rfl rfl rfl rfl (.of_cp rfl)

theorem handling_updateRecord (x : LinkNo) (f : Handover → Handover) : Handling P s (updateRecord x f s) :=
  .of_same rfl rfl rfl rfl (.of_cp rfl)

theorem handling_setRecord (x : LinkNo) (w : Option Handover) : Handling P s (s.setRecord x w) :=
  .of_same rfl rfl rfl rfl (.of_cp rfl)

theorem handling_setExch (x : LinkNo) (e : Exchange) : Handling P s (s.setExch x e) :=
  .of_same rfl rfl rfl rfl (.of_cp rfl)

theorem handling_setPrevExch (x : LinkNo) (e : Exchange) : Handling P s (s.setPrevExch x e) :=
  .of_same rfl rfl rfl rfl (.of_cp rfl)

theorem handling_raise (t : Time) (f : Flag) (o : Byte) : Handling P s (raise t f o s) :=
  .of_same (by simp) (by simp) (by simp) (by simp) (onlyRaises_raise ..)

theorem handling_raisePlain (t : Time) (f : Flag) : Handling P s (raisePlain t f s) := handling_raise P s t f _

theorem handling_raiseCrane (t : Time) (x : LinkNo) : Handling P s (raiseCrane t x s) :=
  .of_same (by rw [raiseCrane_port]) (by rw [raiseCrane_port]) (by rw [raiseCrane_port]) (by rw [raiseCrane_port])
    (onlyRaises_raiseCrane ..)

theorem handling_raiseHead (t : Time) (h : HeadNo) : Handling P s (raiseHead t h s) :=
  .of_same (by rw [raiseHead_port]) (by rw [raiseHead_port]) (by rw [raiseHead_port]) (by rw [raiseHead_port])
    (onlyRaises_raiseHead ..)

theorem handling_offerNotice (m : Message) : Handling P s (offerNotice m s) :=
  .of_same (by rw [offerNotice_port]) (by rw [offerNotice_port]) (by rw [offerNotice_port])
    (by rw [offerNotice_port]) (onlyRaises_offerNotice ..)

theorem handling_invalidateQuality (h : HeadNo) : Handling P s (invalidateQuality h s) :=
  .of_same rfl rfl rfl rfl (.of_cp rfl)

theorem unit_unhome (h : HeadNo) (u : UnitNo) : (unhome h s).unit u = UnitEntry.unhome h (s.unit u) := by
  simp [unhome, State.unit, Vector.get_eq_getElem]

theorem serving_unhome {h g : HeadNo} {u : UnitNo} (k : ((unhome h s).unit u).serving = some g) :
    (s.unit u).serving = some g ∧ g ≠ h := by
  rw [unit_unhome, UnitEntry.unhome] at k
  split at k
  · cases k
  · rename_i ne
    exact ⟨k, fun e => ne (e ▸ k)⟩

theorem handling_unhome (h : HeadNo) : Handling P s (unhome h s) where
  heads _ _ := ⟨.inl rfl, fun _ => id, id, fun k u e => k u (serving_unhome s e).1⟩
  port := .of_cp rfl
  fs := rfl
  hp := rfl
  idle := id
  reg := rfl
  rep := rfl
  reuse law := law.of_fs rfl

end

/-- One head's record changes, and nothing of any other head. -/
theorem handling_setHead {P : HeadNo → Prop} {h : HeadNo} (own : ¬ P h) (r : HeadRecord) (s : State) :
    Handling P s (s.setHead h r) where
  heads g k := ⟨.inl (State.head_setHead_other s r (by rintro rfl; exact own k)), fun _ => id, id, id⟩
  port := .of_cp rfl
  fs := rfl
  hp := rfl
  idle := id
  reg := rfl
  rep := rfl
  reuse law := law.of_fs rfl

theorem handling_takeOutOfService {P : HeadNo → Prop} {h : HeadNo} (own : ¬ P h) (s : State) :
    Handling P s (takeOutOfService h s) where
  heads g k := ⟨.inl (State.head_setHead_other s _ (by rintro rfl; exact own k)), fun _ => id, id, id⟩
  port := .of_cp rfl
  fs := rfl
  hp := rfl
  idle k := by simp [takeOutOfService, k]
  reg := rfl
  rep := rfl
  reuse law := law.of_fs rfl

/-! ## Drain completion and releases (R34, R65) -/

theorem head_takeOutOfService (h g : HeadNo) (s : State) : (takeOutOfService h s).head g =
    if h = g then { s.head g with outOfService := true } else s.head g := by
  show ((s.setHead h _).head g) = _
  rw [State.head_setHead]
  split
  · subst g; rfl
  · rfl

/-- Drain completion (R34) of a DRAINING head that no reservation names; `P` may hold of the head itself. -/
theorem handling_completeDrain (P : HeadNo → Prop) (t : Time) {h : HeadNo} {s : State}
    (draining : (s.head h).state = .draining) (bare : naming s h = []) : Handling P s (completeDrain t h s) := by
  have others : Handling (· ≠ h) s (completeDrain t h s) := by
    unfold completeDrain
    exact ((((handling_setHead (by simp) _ _).trans (handling_takeOutOfService (by simp) _)).trans
      (handling_invalidateQuality _ _ h)).trans (handling_unhome _ _ h)).trans (handling_raiseHead _ _ t h)
  have record : (completeDrain t h s).head h = (s.head h).drained := by
    unfold completeDrain
    dsimp only
    rw [raiseHead_port]
    show (takeOutOfService h _).head h = _
    simp [head_takeOutOfService, HeadRecord.drained]
  have bare' : naming (completeDrain t h s) h = [] := by
    rw [naming_congr, bare]
    unfold completeDrain
    dsimp only
    rw [raiseHead_port]
    rfl
  have seen : HeadSeen (completeDrain t h s) h := headSeen_raiseHead ..
  have unserved : ∀ v, ((completeDrain t h s).unit v).serving ≠ some h := by
    intro v k
    unfold completeDrain at k
    dsimp only at k
    rw [raiseHead_port] at k
    exact (serving_unhome _ k).2 rfl
  refine { others with heads := fun g _ => ?_ }
  by_cases e : g = h
  · subst e
    exact ⟨.inr ⟨draining, record, bare', seen, unserved⟩, fun _ _ => bare', fun _ => seen, fun _ => unserved⟩
  · exact others.heads g e

theorem handling_testDrain (P : HeadNo → Prop) (t : Time) (h : HeadNo) (s : State) :
    Handling P s (testDrain t h s) := by
  unfold testDrain
  split
  · rename_i k
    exact handling_completeDrain P t k.1 k.2
  · exact .refl P s

/-- An admission or a release in the reservation table alone. -/
theorem handling_setResv (P : HeadNo → Prop) {s : State} {x : LinkNo} {a : Role} {r : Held} (h : Admits s x a r) :
    Handling P s (s.setResv x r) where
  heads _ _ := ⟨.inl rfl, naming_setResv h, id, id⟩
  port := .of_cp rfl
  fs := rfl
  hp := rfl
  idle := id
  reg := rfl
  rep := rfl
  reuse law := law.setResv h

theorem handling_promote (P : HeadNo → Prop) (x : LinkNo) (s : State) : Handling P s (promote x s) where
  heads _ _ := ⟨.inl rfl, fun _ => naming_promote x, id, id⟩
  port := .of_cp rfl
  fs := rfl
  hp := rfl
  idle := id
  reg := rfl
  rep := rfl
  reuse law := law.promote x

theorem handling_quietCells (P : HeadNo → Prop) (x : LinkNo) (p : Place) (s : State) :
    Handling P s (quietCells x p s) := by
  have f := quietCells_frame x p s
  exact {
    heads := fun g _ => ⟨.inl (by rw [f]; rfl), fun _ k => (naming_congr (by rw [f]) g).trans k,
      fun k => by rw [f]; exact k, fun k v => by rw [f]; exact k v⟩
    port := .of_cp (by rw [f])
    fs := by rw [f]
    hp := by rw [f]
    idle := fun k => by rw [f]; exact k
    reg := by rw [f]
    rep := by rw [f]
    reuse := fun law => law.quietCells x p }

section
variable (P : HeadNo → Prop) (t : Time) (x : LinkNo) (s : State)

theorem handling_releasePrimary : Handling P s (releasePrimary t x s) := by
  unfold releasePrimary
  split
  · exact .refl P s
  · exact ((handling_setResv P (admits_release_primary s x)).trans (handling_quietCells P x _ _)).trans
      (handling_testDrain P t _ _)

theorem handling_releaseTarget : Handling P s (releaseTarget t x s) := by
  unfold releaseTarget
  split
  · exact .refl P s
  · exact ((handling_setResv P (admits_release_target s x)).trans (handling_quietCells P x _ _)).trans
      (handling_testDrain P t _ _)

theorem handling_releaseAll : Handling P s (releaseAll t x s) :=
  (handling_releasePrimary P t x s).trans (handling_releaseTarget P t x _)

/-! ## Health, tests and outcomes (R97 to R104) -/

theorem handling_recomputeStop : Handling P s (recomputeStop t x s) := by
  unfold recomputeStop
  dsimp only
  split
  · exact .of_same rfl rfl rfl rfl (.of_cp rfl)
  · refine .trans ?_ (handling_raisePlain P _ t _)
    exact .of_same rfl rfl rfl rfl (.of_cp rfl)

theorem handling_setHealth (h : Health) : Handling P s (setHealth t x h s) := by
  unfold setHealth
  split
  · exact .refl P s
  · exact ((handling_updateLink P s x _).trans (handling_raiseCrane P _ t x)).trans (handling_recomputeStop P t x _)

theorem handling_abortTest : Handling P s (abortTest t x s) := by
  unfold abortTest
  split
  · exact (handling_updateLink P s x _).trans (handling_raiseCrane P _ t x)
  · exact .refl P s

theorem handling_enterLost : Handling P s (enterLost t x s) :=
  ((handling_updateLink P s x _).trans (handling_setHealth P t x _ _)).trans (handling_abortTest P t x _)

theorem handling_countTestExchange (errors : Nat) : Handling P s (countTestExchange t x errors s) := by
  unfold countTestExchange
  split
  · dsimp only
    split
    · exact (handling_updateLink P s x _).trans (handling_raiseCrane P _ t x)
    · exact handling_updateLink P s x _
  · exact .refl P s

theorem handling_settleTest (e : Exchange) : Handling P s (settleTest t x e s) := by
  unfold settleTest
  split
  · split
    · exact handling_countTestExchange P t x s _
    · exact Handling.trans (u := { s with freeUsed := s.freeUsed + 1 }) (.of_same rfl rfl rfl rfl (.of_cp rfl))
        (handling_countTestExchange P t x _ _)
  · exact handling_countTestExchange P t x s _
  · exact .refl P s

theorem handling_stepRecovery (success : Bool) : Handling P s (stepRecovery t x success s) := by
  unfold stepRecovery
  split
  · dsimp only
    split
    · exact (handling_updateLink P s x _).trans (handling_setHealth P t x _ _)
    · exact handling_updateLink P s x _
  · exact handling_enterLost P t x s

theorem handling_scoreOutcome (success : Bool) : Handling P s (scoreOutcome t x success s) := by
  unfold scoreOutcome
  split
  · exact .refl P s
  · exact handling_stepRecovery P t x s success
  · dsimp only
    split
    · exact handling_enterLost P t x s
    · exact (handling_updateLink P s x _).trans (handling_setHealth P t x _ _)

theorem handling_offerCraneAlarm (code previous : Byte) (gantry : Word16) :
    Handling P s (offerCraneAlarm t x code previous gantry s) := by
  unfold offerCraneAlarm
  split
  · exact handling_updateLink P s x _
  · split
    · exact (handling_offerNotice P s _).trans (handling_updateLink P _ x _)
    · exact handling_offerNotice P s _

theorem handling_takeStatus (st : CraneStatus) : Handling P s (takeStatus t x st s) := by
  have taken := (handling_updateLink P s x fun l => { l with latest := some st }).trans (handling_recomputeStop P t x _)
  unfold takeStatus
  dsimp only
  split
  · exact taken.trans (handling_offerCraneAlarm P t x _ _ _ _)
  · exact taken

/-! ## Handover steps (R109 to R119) -/

theorem handling_unplace : Handling P s (unplace t x s) :=
  (((handling_releaseAll P t x s).trans (handling_updateRecord P _ x _)).trans (handling_enterLost P t x _)).trans
    (handling_raiseCrane P _ t x)

theorem handling_enterDual {p : Place} (h : admissible s x p = true) (forced : Bool) :
    Handling P s (enterDual x p forced s) :=
  (((handling_setResv P (admits_target h)).trans (handling_updateRecord P _ x _)).trans (handling_setExch P _ x _)).trans
    (handling_setPrevExch P _ x _)

theorem handling_completeHandover : Handling P s (completeHandover t x s) := by
  unfold completeHandover
  split
  · exact .refl P s
  · exact (((handling_releasePrimary P t x s).trans (handling_promote P x _)).trans (handling_updateRecord P _ x _)).trans
      (handling_raiseCrane P _ t x)

theorem handling_dropTarget : Handling P s (dropTarget t x s) :=
  ((handling_releaseTarget P t x s).trans (handling_updateRecord P _ x _)).trans (handling_raiseCrane P _ t x)

theorem handling_attemptForced : Handling P s (attemptForced x s) := by
  unfold attemptForced
  dsimp only
  split
  · rename_i p k
    exact (handling_enterDual P x s (firstAdmitted_admissible k) true).trans (handling_updateRecord P _ x _)
  · exact handling_updateRecord P s x _

theorem handling_emergencyMove : Handling P s (emergencyMove t x s) := by
  unfold emergencyMove
  dsimp only
  split
  · rename_i p k
    exact (((handling_releasePrimary P t x s).trans (handling_setResv P (admits_primary (firstAdmitted_admissible k)))).trans
      (handling_updateRecord P _ x _)).trans (handling_raiseCrane P _ t x)
  · exact (handling_releasePrimary P t x s).trans (handling_unplace P t x _)

theorem handling_abandonHandover : Handling P s (abandonHandover t x s) :=
  (handling_updateRecord P s x _).trans (handling_dropTarget P t x _)

theorem handling_stepDual (w : Handover) : Handling P s (stepDual t x w s) := by
  unfold stepDual
  split
  · exact handling_abandonHandover P t x s
  · exact handling_updateRecord P s x _

/-! ## Evaluation (R53 to R56) -/

theorem handling_startHandover (q : HeadNo) : Handling P s (startHandover x q s) := by
  unfold startHandover
  split
  · exact handling_enterDual P x s (targetSearch_admissible ‹_›) false
  · exact handling_updateRecord P s x _

theorem handling_evaluate (c : HeadNo) (w : Handover) : Handling P s (evaluate x c w s) := by
  unfold evaluate
  split
  · exact handling_updateRecord P s x _
  · dsimp only
    split
    · exact (handling_updateRecord P s x _).trans (handling_startHandover P x _ _)
    · exact handling_updateRecord P s x _

theorem handling_coverLink (heads : List HeadNo) (w : Handover) : Handling P s (coverLink x heads w s) := by
  unfold coverLink
  dsimp only
  split
  · exact .refl P s
  · split
    · exact handling_updateRecord P s x _
    · split
      · split
        · exact handling_evaluate P x s _ w
        · exact .refl P s
      · exact .refl P s

theorem handling_evaluateLink (r : SlotRecord) : Handling P s (evaluateLink r x s) := by
  unfold evaluateLink
  split
  · exact .refl P s
  · split
    · exact .refl P s
    · split
      · exact .refl P s
      · exact handling_coverLink P x s _ _

theorem handling_measureHead (r : SlotRecord) (h : HeadNo) : Handling P s (measureHead r h s) := by
  unfold measureHead
  dsimp only
  split
  · split
    · exact .refl P s
    · exact handling_updateRecord P s _ _
  · exact .refl P s

/-! ## Judgement and settlement (R94 to R97) -/

theorem handling_setFrameExch (r : SlotRecord) (e : Exchange) : Handling P s (setFrameExch r x e s) := by
  unfold setFrameExch
  split
  · exact handling_setPrevExch P s x e
  · exact handling_setExch P s x e

theorem handling_judgeCell (r : SlotRecord) (role : Role) (h : HeadNo) : Handling P s (judgeCell r x role h s) := by
  unfold judgeCell
  dsimp only
  split
  · exact handling_setFrameExch P x s r _
  · have taken := fun e' st => (handling_setFrameExch P x s r e').trans (handling_takeStatus P r.time x _ st)
    split
    · exact (taken _ _).trans (handling_completeHandover P r.time x _)
    · exact taken _ _

theorem handling_settleHandover (e : Exchange) : Handling P s (settleHandover t x e s) := by
  unfold settleHandover
  split
  · exact .refl P s
  · split
    · split
      · exact handling_stepDual P t x s _
      · exact .refl P s
    · split
      · split
        · exact handling_unplace P t x s
        · exact handling_attemptForced P x s
      · exact .refl P s
    · exact .refl P s

theorem handling_settle (e : Exchange) (result : CellResult) : Handling P s (settle t x e result s) :=
  (((handling_updateLink P s x _).trans (handling_settleTest P t x _ e)).trans
    (handling_scoreOutcome P t x _ _)).trans (handling_settleHandover P t x _ e)

theorem handling_settleAtClose (r : SlotRecord) : Handling P s (settleAtClose r x s) := by
  unfold settleAtClose
  dsimp only
  split
  · exact .refl P s
  · split
    · exact .refl P s
    · exact (handling_setFrameExch P x s r _).trans (handling_settle P r.time x _ _ _)

theorem handling_settleAfterRelease : Handling P s (settleAfterRelease t x s) := by
  unfold settleAfterRelease
  dsimp only
  split
  · exact .refl P s
  · split
    · exact .refl P s
    · exact (handling_setExch P s x _).trans (handling_settle P t x _ _ _)

theorem handling_closeExchange (r : SlotRecord) : Handling P s (closeExchange r x s) := by
  unfold closeExchange
  split
  · exact .refl P s
  · split
    · exact .refl P s
    · exact ((Handling.forEach _ (fun h s => handling_judgeCell P x s r .primary h) s).trans
        (Handling.forEach _ (fun h s => handling_judgeCell P x s r .target h) _)).trans (handling_settleAtClose P x _ r)

/-! ## Heads (R28, R114 to R120) -/

theorem handling_loseHeadOfLink (h : HeadNo) : Handling P s (loseHeadOfLink t h x s) := by
  unfold loseHeadOfLink
  split
  · refine Handling.trans ?_ (handling_settleAfterRelease P t x _)
    split
    · exact handling_completeHandover P t x s
    · exact handling_emergencyMove P t x s
  · split
    · exact (handling_dropTarget P t x s).trans (handling_settleAfterRelease P t x _)
    · exact .refl P s

theorem handling_drainStartOfLink (h : HeadNo) : Handling P s (drainStartOfLink t h x s) := by
  unfold drainStartOfLink
  split
  · split
    · exact (handling_unplace P t x s).trans (handling_settleAfterRelease P t x _)
    · split
      · exact handling_updateRecord P s x _
      · exact handling_attemptForced P x s
  · split
    · exact (handling_dropTarget P t x s).trans (handling_settleAfterRelease P t x _)
    · exact .refl P s

theorem handling_drainEndedOfLink (h : HeadNo) : Handling P s (drainEndedOfLink h x s) := by
  unfold drainEndedOfLink
  split
  · exact handling_updateRecord P s x _
  · exact .refl P s

end

theorem handling_drainEnded (P : HeadNo → Prop) (h : HeadNo) (s : State) : Handling P s (drainEnded h s) :=
  .forLinks (fun x s => handling_drainEndedOfLink P x s h) s

section
variable {P : HeadNo → Prop} {h : HeadNo} (own : ¬ P h) (t : Time) (s : State)
include own

/-! ## Events of one head, as the other heads see them -/

theorem handling_loseHead (state : HeadState) : Handling P s (loseHead t h state s) :=
  (((((handling_setHead own _ s).trans (handling_takeOutOfService own _)).trans (handling_invalidateQuality P _ h)).trans
    (Handling.forLinks (fun x s => handling_loseHeadOfLink P t x s h) _)).trans (handling_unhome P _ h)).trans
    (handling_raiseHead P _ t h)

theorem handling_headDown (state : HeadState) : Handling P s (headDown t h state s) := by
  unfold headDown
  split
  · exact handling_loseHead own t s state
  · exact (handling_setHead own _ s).trans (handling_raiseHead P _ t h)

theorem handling_expireDrain : Handling P s (expireDrain t h s) :=
  ((handling_setHead own _ s).trans (handling_raiseHead P _ t h)).trans (handling_drainEnded P h _)

theorem handling_tickDrain : Handling P s (tickDrain t h s) := by
  unfold tickDrain
  dsimp only
  split
  · split
    · exact handling_expireDrain own t s
    · exact handling_setHead own _ s
  · exact .refl P s

theorem handling_missStatus : Handling P s (missStatus t h s) := by
  unfold missStatus
  dsimp only
  split
  · exact (handling_setHead own _ s).trans (handling_headDown own t _ _)
  · exact handling_setHead own _ s

theorem handling_closeStatusWindow : Handling P s (closeStatusWindow t h s) := by
  unfold closeStatusWindow
  split
  · exact handling_setHead own _ s
  · exact handling_missStatus own t s

theorem handling_takeSerial (serial : Word32) : Handling P s (takeSerial t h serial s) := by
  unfold takeSerial
  split
  · exact .refl P s
  · exact (handling_setHead own _ s).trans (handling_raiseHead P _ t h)

theorem handling_countStatus : Handling P s (countStatus h s) := by
  unfold countStatus
  dsimp only
  split
  · exact .refl P s
  · exact handling_setHead own _ s

theorem handling_linkUp (fault : Bool) : Handling P s (linkUp t h fault s) :=
  (handling_setHead own _ s).trans (handling_raiseHead P _ t h)

theorem handling_statusState (fault : Bool) : Handling P s (statusState t h fault s) := by
  unfold statusState
  split
  · split
    · exact handling_linkUp own t s _
    · exact .refl P s
  · exact handling_headDown own t s _
  · exact handling_headDown own t s _
  · exact handling_headDown own t s _
  · exact (handling_setHead own _ s).trans (handling_raiseHead P _ t h)
  · exact .refl P s

theorem handling_takeStatusRecord (serial : Word32) (fault : Bool) :
    Handling P s (takeStatusRecord t h serial fault s) :=
  ((handling_takeSerial own t s serial).trans (handling_countStatus own _)).trans (handling_statusState own t _ fault)

theorem handling_startDrain : Handling P s (startDrain t h s) :=
  ((handling_setHead own _ s).trans (Handling.forLinks (fun x s => handling_drainStartOfLink P t x s h) _)).trans
    (handling_testDrain P t h _)

end

end Sys2Proof.Machine
end

section
/-! SUPPORT. What the Reefer Registry's handling of arrivals, polls and ageing can do to the rest of the machine
(R127 to R154). -/

namespace Sys2Proof.Machine

/-! ## The relation -/

/-- From `s` to `u` only the Registry, the Report Unit's three queues with their counters, and the Control Port, by
raises other than PLAN's, have changed. -/
structure RegistryFrame (s u : State) : Prop where
  frame : u = { s with reg := u.reg, rep := u.rep, cp := u.cp }
  rep : u.rep = { s.rep with acks := u.rep.acks, reports := u.rep.reports, alarms := u.rep.alarms,
                             ackLoss := u.rep.ackLoss, overflow := u.rep.overflow, alarmOverflow := u.rep.alarmOverflow }
  port : OnlyRaises s u

/-- So has the Registry, but for its outer-check failure count. -/
structure RegistryStep (s u : State) : Prop extends RegistryFrame s u where
  outer : u.reg.outerFails = s.reg.outerFails

theorem RegistryFrame.refl (s : State) : RegistryFrame s s := ⟨rfl, rfl, .refl s⟩

theorem RegistryFrame.trans {s u v : State} (a : RegistryFrame s u) (b : RegistryFrame u v) : RegistryFrame s v where
  frame := by rw [b.frame, a.frame]
  rep := by rw [b.rep, a.rep]
  port := a.port.trans b.port

namespace RegistryStep

variable {s u v : State}

theorem refl (s : State) : RegistryStep s s := ⟨.refl s, rfl⟩

theorem trans (a : RegistryStep s u) (b : RegistryStep u v) : RegistryStep s v :=
  ⟨a.toRegistryFrame.trans b.toRegistryFrame, b.outer.trans a.outer⟩

/-- A plain update of the Registry. -/
theorem of_reg (frame : u = { s with reg := u.reg }) (outer : u.reg.outerFails = s.reg.outerFails) : RegistryStep s u where
  frame := by rw [frame]
  rep := by rw [frame]
  port := .of_cp (by rw [frame])
  outer := outer

end RegistryStep

theorem RegistryFrame.forEach {α : Type} {f : α → State → State} (l : List α) (k : ∀ a s, RegistryFrame s (f a s))
    (s : State) : RegistryFrame s (forEach l f s) :=
  forEach_keeps (P := RegistryFrame s) l (fun a _ u h => h.trans (k a u)) (.refl s)

theorem RegistryStep.forEach {α : Type} {f : α → State → State} (l : List α) (k : ∀ a s, RegistryStep s (f a s))
    (s : State) : RegistryStep s (forEach l f s) :=
  forEach_keeps (P := RegistryStep s) l (fun a _ u h => h.trans (k a u)) (.refl s)

/-! ## The queues and the plain updates -/

section
variable (s : State)

theorem registryStep_setUnit (u : UnitNo) (e : UnitEntry) : RegistryStep s (s.setUnit u e) := .of_reg rfl rfl

theorem registryStep_setPollQueue (q : List UnitNo) : RegistryStep s (s.setPollQueue q) := .of_reg rfl rfl

theorem registryStep_raisePlain (t : Time) (f : Flag) : RegistryStep s (raisePlain t f s) where
  frame := by rw [raisePlain, raise_port]
  rep := by rw [raisePlain, raise_rep]
  port := onlyRaises_raise ..
  outer := by rw [raisePlain, raise_reg]

theorem registryStep_enqueueAck (a : Ack) : RegistryStep s (enqueueAck a s) where
  frame := by rw [enqueueAck_frame]
  rep := by rw [enqueueAck_frame]
  port := .of_cp (by rw [enqueueAck_frame])
  outer := by rw [enqueueAck_frame]

theorem registryStep_enqueueAlarm (t : Time) (r : AlarmRecord) : RegistryStep s (enqueueAlarm t r s) := by
  unfold enqueueAlarm
  split
  · exact ⟨⟨rfl, rfl, .of_cp rfl⟩, rfl⟩
  · dsimp only
    have joined : RegistryStep s { s with rep := { s.rep with alarms := s.rep.alarms ++ [r] } } :=
      ⟨⟨rfl, rfl, .of_cp rfl⟩, rfl⟩
    split
    · exact joined.trans (registryStep_raisePlain _ t _)
    · exact joined

theorem registryStep_joinReport (t : Time) (r : ReportRecord) : RegistryStep s (joinReport t r s) := by
  unfold joinReport
  have joined : RegistryStep s { s with rep := { s.rep with reports := s.rep.reports ++ [r] } } :=
    ⟨⟨rfl, rfl, .of_cp rfl⟩, rfl⟩
  dsimp only
  split
  · exact joined.trans (registryStep_raisePlain _ t _)
  · exact joined

theorem registryStep_enqueueReport (t : Time) (r : ReportRecord) (snap : Option Snapshot) :
    RegistryStep s (enqueueReport t r snap s) := by
  unfold enqueueReport
  dsimp only
  split
  · exact (registryStep_setUnit s _ _).trans ⟨⟨rfl, rfl, .of_cp rfl⟩, rfl⟩
  · exact (registryStep_setUnit s _ _).trans (registryStep_joinReport _ t _)

/-! ## Alarms and reports (R141 to R147) -/

variable (t : Time) (u : UnitNo)

theorem registryStep_setLive (k : AlarmKind) : RegistryStep s (setLive t u k s) := by
  unfold setLive
  dsimp only
  split
  · exact (registryStep_setUnit s u _).trans (registryStep_enqueueAlarm _ t _)
  · exact .refl s

theorem registryStep_clearLive (k : AlarmKind) : RegistryStep s (clearLive u k s) := registryStep_setUnit s u _

theorem registryStep_judgeLive (k : AlarmKind) (set : Bool) : RegistryStep s (judgeLive t u k set s) := by
  unfold judgeLive
  split
  · exact registryStep_setLive s t u k
  · exact registryStep_clearLive s u k

theorem registryStep_judgeExcursion (b : ReportBurst) (r : Readings) : RegistryStep s (judgeExcursion t u b r s) := by
  unfold judgeExcursion
  split
  · exact .refl s
  · dsimp only
    split
    · exact (registryStep_setUnit s u _).trans (registryStep_setLive _ t u _)
    · split
      · exact (registryStep_setUnit s u _).trans (registryStep_clearLive _ u _)
      · exact registryStep_setUnit s u _

theorem registryStep_thin (h : HeadNo) (level : Byte) (b : ReportBurst) (r : Readings) :
    RegistryStep s (thin t u h level b r s) := by
  unfold thin
  dsimp only
  split
  · exact registryStep_enqueueReport s t _ _
  · exact .refl s

theorem registryStep_processReport (h : HeadNo) (level : Byte) (b : ReportBurst) :
    RegistryStep s (processReport t u h level b s) := by
  unfold processReport
  split
  · exact ((((registryStep_setUnit s u _).trans (registryStep_judgeLive _ t u _ _)).trans
      (registryStep_judgeLive _ t u _ _)).trans (registryStep_judgeExcursion _ t u b _)).trans
      (registryStep_thin _ t u h level b _)
  · exact registryStep_enqueueReport s t _ _

/-! ## Arrivals and polls (R127 to R134) -/

theorem registryStep_acknowledge (level : Byte) (b : ReportBurst) : RegistryStep s (acknowledge t u level b s) :=
  (registryStep_setUnit s u _).trans (registryStep_enqueueAck _ _)

theorem registryStep_admitJoin (h : HeadNo) (level : Byte) (b : ReportBurst) :
    RegistryStep s (admitJoin t u h level b s) :=
  (registryStep_acknowledge s t u level b).trans (registryStep_processReport _ t u h level b)

theorem registryStep_arriveJoin (h : HeadNo) (level : Byte) (p : Fin 4) (b : ReportBurst) :
    RegistryStep s (arriveJoin t h level p b s) := by
  have fresh : ∀ u, RegistryStep s (joinFresh u h p b s) := fun u => registryStep_setUnit s u _
  unfold arriveJoin
  split
  · exact ((registryStep_setUnit s _ _).trans (registryStep_setPollQueue _ _)).trans
      (registryStep_admitJoin _ t _ h level b)
  · split
    · exact (fresh _).trans (registryStep_admitJoin _ t _ h level b)
    · split
      · exact (fresh _).trans (registryStep_admitJoin _ t _ h level b)
      · refine .trans ?_ (registryStep_raisePlain _ t _)
        exact .of_reg rfl rfl

theorem registryStep_arriveReport (h : HeadNo) (level : Byte) (b : ReportBurst) :
    RegistryStep s (arriveReport t h level b s) := by
  unfold arriveReport
  split
  · exact .of_reg rfl rfl
  · have taken := fun u => ((registryStep_setUnit s u _).trans (registryStep_setPollQueue _ _)).trans
      (registryStep_acknowledge (relist u h s) t u level b)
    dsimp only
    split
    · exact taken _
    · exact ((taken _).trans (registryStep_setUnit _ _ _)).trans (registryStep_processReport _ t _ h level b)

theorem registryStep_goSilent : RegistryStep s (goSilent t u s) :=
  ((registryStep_setUnit s u _).trans (registryStep_setPollQueue _ _)).trans (registryStep_setLive _ t u _)

theorem registryStep_countUnanswered : RegistryStep s (countUnanswered t u s) := by
  unfold countUnanswered
  dsimp only
  split
  · exact (registryStep_setUnit s u _).trans (registryStep_goSilent _ t u)
  · exact (registryStep_setUnit s u _).trans (registryStep_setPollQueue _ _)

theorem registryStep_missPoll (c : Cell) : RegistryStep s (missPoll t c s) := by
  unfold missPoll
  split
  · unfold unanswered
    split
    · exact registryStep_countUnanswered s t _
    · exact .refl s
  · exact .refl s

theorem registryStep_takeBurst (r : SlotRecord) (h : HeadNo) (c : Cell) (b : ReportBurst) (level : Byte) :
    RegistryStep s (takeBurst r h c b level s) := by
  unfold takeBurst
  split
  · refine .trans ?_ (registryStep_missPoll _ r.time c)
    exact .of_reg rfl rfl
  · have arrived : ∀ p, RegistryStep s
        (if b.kind = .join then arriveJoin r.time h level p b s else arriveReport r.time h level b s) := by
      intro p
      split
      · exact registryStep_arriveJoin s r.time h level p b
      · exact registryStep_arriveReport s r.time h level b
    dsimp only
    split
    · exact arrived _
    · exact (arrived _).trans (registryStep_missPoll _ r.time c)

theorem registryStep_missDiscarded (r : SlotRecord) (h : HeadNo) : RegistryStep s (missDiscarded r h s) := by
  unfold missDiscarded
  split
  · exact registryStep_missPoll s r.time _
  · exact .refl s

/-! ## The slot record at the Registry (R127) -/

/-- The record's entry for head `h` is a burst of a reefer cell that fails the outer test (R127). -/
def outerFailure (e : RecordEntry) : Bool :=
  isReeferCell e.cell && match e.ret with
    | some (⟨.decoded, _, bytes⟩, .head) => (readReport bytes).isNone
    | _ => false

/-- One reefer entry counts as an outer failure exactly where its burst fails the outer test. -/
theorem takeReefer_step (r : SlotRecord) (h : HeadNo) : RegistryFrame s (takeReefer r h s) ∧
    (takeReefer r h s).reg.outerFails =
      if outerFailure (r.entries.get h) = true then bump s.reg.outerFails else s.reg.outerFails := by
  have kept : ∀ {u : State}, RegistryStep s u → outerFailure (r.entries.get h) = false →
      RegistryFrame s u ∧ u.reg.outerFails =
        if outerFailure (r.entries.get h) = true then bump s.reg.outerFails else s.reg.outerFails := by
    intro u k e
    exact ⟨k.toRegistryFrame, by rw [e]; exact k.outer⟩
  unfold takeReefer
  dsimp only
  split
  · rename_i reefer
    split
    · rename_i level bytes ret
      split
      · rename_i bad
        have fails : outerFailure (r.entries.get h) = true := by simp [outerFailure, reefer, ret, bad]
        have missed := registryStep_missPoll { s with reg := { s.reg with outerFails := bump s.reg.outerFails } } r.time
          (r.entries.get h).cell
        rw [if_pos fails]
        refine ⟨.trans ?_ missed.toRegistryFrame, missed.outer⟩
        exact ⟨rfl, rfl, .of_cp rfl⟩
      · rename_i b good
        have passes : outerFailure (r.entries.get h) = false := by simp [outerFailure, ret, good]
        split
        · exact kept (.refl s) passes
        · exact kept (registryStep_takeBurst s r h _ b level) passes
    · rename_i no ret
      have passes : outerFailure (r.entries.get h) = false := by
        unfold outerFailure
        rw [ret]
        split
        · rename_i e
          cases e
          exact absurd rfl (no _ _)
        · simp
      exact kept (registryStep_missPoll s r.time _) passes
    · rename_i ret
      exact kept (registryStep_missPoll s r.time _) (by simp [outerFailure, ret])
    · rename_i no _ _
      refine kept (.refl s) ?_
      unfold outerFailure
      split
      · rename_i ret
        exact absurd ret (no _ _)
      · simp
  · rename_i other
    exact kept (.refl s) (by simp [outerFailure, other])

theorem registryFrame_registryTakes (r : SlotRecord) : RegistryFrame s (registryTakes r s) :=
  (RegistryFrame.forEach _ (fun h s => (takeReefer_step s r h).1) s).trans
    (RegistryStep.forEach _ (fun h s => registryStep_missDiscarded s r h) _).toRegistryFrame

/-! ## Ageing (R132, R148) -/

theorem registryStep_startPolling : RegistryStep s (startPolling u s) :=
  (registryStep_setUnit s u _).trans (registryStep_setPollQueue _ _)

theorem registryStep_goGone : RegistryStep s (goGone t u s) :=
  (registryStep_setUnit s u _).trans (registryStep_raisePlain _ t _)

theorem registryStep_ageState : RegistryStep s (ageState t u s) := by
  unfold ageState
  split
  · exact registryStep_goSilent s t u
  · split
    · exact registryStep_startPolling s u
    · split
      · exact registryStep_goGone s t u
      · exact registryStep_setUnit s u _

theorem registryStep_ageUnit : RegistryStep s (ageUnit t u s) := by
  unfold ageUnit
  split
  · exact .refl s
  · exact (registryStep_ageState s t u).trans (registryStep_setUnit _ u _)

theorem registryStep_ageRegistry : RegistryStep s (ageRegistry t s) :=
  .forEach _ (fun u s => registryStep_ageUnit s t u) s

/-- Ageing leaves the ack queue (R132). -/
theorem acks_ageRegistry : (ageRegistry t s).rep.acks = s.rep.acks := by
  have silent : ∀ u s, (goSilent t u s).rep.acks = s.rep.acks := by
    intro u s
    unfold goSilent setLive
    dsimp only
    split
    · rw [enqueueAlarm_rep]
      split <;> rfl
    · rfl
  have step : ∀ u v, (ageUnit t u v).rep.acks = v.rep.acks := by
    intro u v
    unfold ageUnit
    split
    · rfl
    · show (ageState t u v).rep.acks = v.rep.acks
      unfold ageState
      split
      · exact silent u v
      · split
        · rfl
        · split
          · simp [goGone, raisePlain]
          · rfl
  have aged := forUnits_keeps (P := fun v => v.rep.acks = s.rep.acks) (fun u v hv => (step u v).trans hv) rfl
  rw [ageRegistry]
  exact aged

end

end Sys2Proof.Machine
end

section
/-! SUPPORT. What a slot start (R38, R86) and a frame start (R1, R16) do, part by part. -/

namespace Sys2Proof.Machine

/-! ## The composition of a down burst (R86 to R93) -/

/-- From `s` to `u` a down burst has been composed, at most: it acts on the Crane Link Engine and the Control Port, and
no link's mode changes. -/
structure Composing (s u : State) : Prop where
  frame : u = { s with cle := u.cle, cp := u.cp }
  mode : ∀ x, (u.link x).mode = (s.link x).mode

theorem Composing.refl (s : State) : Composing s s := ⟨rfl, fun _ => rfl⟩

theorem Composing.trans {s u v : State} (a : Composing s u) (b : Composing u v) : Composing s v where
  frame := by rw [b.frame, a.frame]
  mode x := (b.mode x).trans (a.mode x)

section
variable (s : State)

theorem composing_setLink {x : LinkNo} {l : Link} (h : l.mode = (s.link x).mode) : Composing s (s.setLink x l) where
  frame := rfl
  mode y := by
    rw [State.link_setLink]
    split
    · subst y; exact h
    · rfl

theorem composing_setExch (x : LinkNo) (e : Exchange) : Composing s (s.setExch x e) := ⟨rfl, fun _ => rfl⟩

theorem composing_raiseListLow (t : Time) (x : LinkNo) : Composing s (raiseListLow t x s) where
  frame := by rw [raiseListLow_port]
  mode _ := by rw [raiseListLow_port]; rfl

variable (t : Time) (x : LinkNo)

theorem composing_takeSnapshot : Composing s (takeSnapshot t x s) := by
  unfold takeSnapshot
  split
  · exact composing_setLink s rfl
  · exact .refl s

theorem composing_composeCommand : Composing s (composeCommand t x s).1 := by
  unfold composeCommand
  dsimp only
  split
  · exact .refl s
  · exact .refl s
  · have drawn := fun l held => ((composing_setLink s (x := x)
      (l := { s.link x with list := l, held := held }) rfl).trans
      (v := { s.setLink x { s.link x with list := l, held := held } with cle :=
        { (s.setLink x { s.link x with list := l, held := held }).cle with poolFree := s.cle.poolFree + 1 } })
      ⟨rfl, fun _ => rfl⟩)
    split
    · exact ((drawn _ _).trans (composing_setExch _ x _)).trans (composing_raiseListLow _ t x)
    · exact (drawn _ _).trans (composing_setExch _ x _)
  · exact composing_setExch s x _
  · exact .refl s

theorem composing_composeTest : Composing s (composeTest x s).1 := by
  unfold composeTest
  split
  · exact .refl s
  · refine .trans ?_ (composing_setExch _ x _)
    exact composing_setLink s rfl
  · exact .refl s

theorem composing_composeContent : Composing s (composeContent t x s).1 := by
  unfold composeContent
  dsimp only
  split
  · exact .refl s
  · split
    · exact composing_composeTest s x
    · exact composing_composeCommand s t x
    · exact .refl s

theorem composing_composeDown (role : Role) (h : HeadNo) : Composing s (composeDown t x role h s).1 :=
  ((composing_takeSnapshot s t x).trans (composing_composeContent _ t x)).trans (composing_setExch _ x _)

end

/-! ## A slot start (R38) -/

/-- The cells of one head's order act on the Head Port Array, the Crane Link Engine and the Control Port alone. -/
theorem startCell_frame (t : Time) (h : HeadNo) (s : State) :
    startCell t h s = { s with hp := (startCell t h s).hp, cle := (startCell t h s).cle, cp := (startCell t h s).cp } := by
  unfold startCell
  dsimp only
  split
  · rfl
  · split
    · rfl
    · split
      · rfl
      · unfold sendOrder setSlotEntry
        rw [(composing_composeDown s t _ _ h).frame]
    all_goals rfl

theorem startSlot_frame (s : State) : startSlot s =
    { s with fs := { s.fs with slotStarted := (startSlot s).fs.slotStarted }, hp := (startSlot s).hp,
             cle := (startSlot s).cle, cp := (startSlot s).cp } := by
  unfold startSlot
  split
  · rfl
  · have all := fun v : State => forHeads_keeps (f := startCell s.now)
      (P := fun u => u = { v with hp := u.hp, cle := u.cle, cp := u.cp })
      (fun h u k => by rw [startCell_frame, k]) (s := v) rfl
    dsimp only
    rw [all]

/-! ## A frame start (R1, R11, R16) -/

/-- R12: the active plan after a validation with result `r`. -/
def planAfter (r : PlanResult) (s : State) : Plan := match r with
  | .applied _ => s.fs.staged
  | _ => s.fs.active

/-- R12: with plan-ready set the plans are dealt with, and PLAN is raised. -/
theorem dealWithPlan_ready {s : State} (h : s.fs.ready = true) : dealWithPlan s =
    raisePlan s.now (validatePlan s s.now.mf) { s with fs := { s.fs with
      active := planAfter (validatePlan s s.now.mf) s, staged := planAfter (validatePlan s s.now.mf) s, ready := false
      last := validatePlan s s.now.mf } } := by
  unfold dealWithPlan
  rw [if_pos h]
  rfl

theorem dealWithPlan_idle {s : State} (h : s.fs.ready = false) : dealWithPlan s = s := by
  simp [dealWithPlan, h]

theorem raisePlan_port (t : Time) (r : PlanResult) (s : State) : raisePlan t r s = { s with cp := (raisePlan t r s).cp } := by
  rw [raisePlan, raise_port]

/-- R11, R12: what dealing with a plan leaves of the rest. -/
theorem dealWithPlan_frame (s : State) : dealWithPlan s =
    { s with fs := { s.fs with active := (dealWithPlan s).fs.active, staged := (dealWithPlan s).fs.staged,
                               ready := (dealWithPlan s).fs.ready, last := (dealWithPlan s).fs.last }
             cp := (dealWithPlan s).cp } := by
  cases h : s.fs.ready
  · rw [dealWithPlan_idle h]
  · rw [dealWithPlan_ready h, raisePlan_port]

/-- A plan that is applied keeps the group spacing (R11). -/
theorem spacing_of_applied {s : State} {mf mf' : Word16} (h : validatePlan s mf = .applied mf') :
    spacingFault s.fs.staged = none := by
  unfold validatePlan at h
  split at h
  · cases h
  · assumption

/-- The active plan of every multiframe keeps the group spacing (R11, R12). -/
theorem spacing_dealWithPlan {s : State} (law : spacingFault s.fs.active = none) :
    spacingFault (dealWithPlan s).fs.active = none := by
  cases h : s.fs.ready
  · rw [dealWithPlan_idle h]
    exact law
  · rw [dealWithPlan_ready h, raisePlan_port]
    show spacingFault (planAfter _ s) = none
    unfold planAfter
    split
    · exact spacing_of_applied ‹_›
    · exact law

/-- The counts of a slot still in progress at a boundary act on head records and the slot in progress alone (R42). -/
theorem settleGarbled_frame (s : State) : settleGarbled s =
    { s with hp := { s.hp with heads := (settleGarbled s).hp.heads, openSlot := (settleGarbled s).hp.openSlot } } := by
  unfold settleGarbled
  split
  · split
    · rename_i o _ _
      have counted := forHeads_keeps (f := countGarbled o.record)
        (P := fun u => u = { s with hp := { s.hp with heads := u.hp.heads } })
        (fun h u k => by rw [countGarbled_frame, k]) (s := s) rfl
      dsimp only
      rw [counted]
    · rfl
  · rfl

/-- A multiframe boundary acts on plans, head records, the slot in progress, the exponent with its sums, and the
Control Port alone. -/
theorem openMultiframe_frame (s : State) : openMultiframe s =
    { s with
      fs := (dealWithPlan s).fs
      hp := { s.hp with heads := (openMultiframe s).hp.heads, openSlot := (openMultiframe s).hp.openSlot }
      rep := { s.rep with exponent := (openMultiframe s).rep.exponent, lastOffered := (openMultiframe s).rep.lastOffered,
                          lastGarbled := (openMultiframe s).rep.lastGarbled }
      cp := (dealWithPlan s).cp } := by
  unfold openMultiframe updateExponent exponentAfter rollCounts
  rw [settleGarbled_frame]
  conv_lhs => rw [dealWithPlan_frame]
  rw [dealWithPlan_frame]

/-- The state from which a frame start builds its map: the frame advanced, restores taken, the exchanges shifted, and at
a boundary the multiframe opened (R1, R31, R86, R11). -/
def frameOpened (s : State) : State :=
  let u := shiftExchanges (takeRestores (advanceFrame s))
  if atBoundary s then openMultiframe u else u

theorem startFrame_eq (s : State) : startFrame s = if atBoundary s = true then
    ageRegistry (assembleBeacon (replaceMap (frameOpened s))).now (assembleBeacon (replaceMap (frameOpened s)))
    else assembleBeacon (replaceMap (frameOpened s)) := rfl

/-- The Registry's ageing comes last, and only at a boundary (R132, log entry 11). -/
theorem startFrame_aged (s : State) : RegistryStep (assembleBeacon (replaceMap (frameOpened s))) (startFrame s) := by
  rw [startFrame_eq]
  split
  · exact registryStep_ageRegistry _ _
  · exact .refl _

/-- The Frame Scheduler after a frame start: the map is built from the state the frame opens in. -/
theorem startFrame_fs (s : State) : (startFrame s).fs =
    { (frameOpened s).fs with map := buildMap (frameOpened s) (frameOpened s).fs.now.frame
                              beacon := (assembleBeacon (replaceMap (frameOpened s))).fs.beacon } := by
  rw [(startFrame_aged s).frame]
  rfl

theorem frameOpened_boundary {s : State} (h : atBoundary s = true) :
    frameOpened s = openMultiframe (shiftExchanges (takeRestores (advanceFrame s))) := if_pos h

theorem frameOpened_plain {s : State} (h : atBoundary s = false) :
    frameOpened s = shiftExchanges (takeRestores (advanceFrame s)) := by simp [frameOpened, h]

theorem frameOpened_resv (s : State) : (frameOpened s).fs.resv = s.fs.resv := by
  cases h : atBoundary s
  · rw [frameOpened_plain h]; rfl
  · rw [frameOpened_boundary h, openMultiframe_frame, dealWithPlan_frame]; rfl

end Sys2Proof.Machine
end

section
/-! The reuse law (R15, R17) is kept by every event and every command. -/

namespace Sys2Proof.Machine

/-! ## Air time -/

theorem reuse_startFrame {s : State} (law : ReuseLaw s) : ReuseLaw (startFrame s) := by
  have table : TableLaw (frameOpened s) := by
    unfold TableLaw
    rw [table_congr (frameOpened_resv s)]
    exact law.table
  have spacing : spacingFault (frameOpened s).fs.active = none := by
    cases h : atBoundary s
    · rw [frameOpened_plain h]
      exact law.spacing
    · rw [frameOpened_boundary h, openMultiframe_frame]
      exact spacing_dealWithPlan law.spacing
  have fs := startFrame_fs s
  constructor
  · unfold TableLaw
    rw [table_congr (s := frameOpened s) (by rw [fs])]
    exact table
  · rw [fs]
    exact spacing
  · rw [fs]
    exact reuse_buildMap _ table spacing
  · rw [fs]
    exact listens_buildMap _ _

theorem reuse_startSlot {s : State} (law : ReuseLaw s) : ReuseLaw (startSlot s) :=
  law.congr (by rw [startSlot_frame]) (by rw [startSlot_frame]) (by rw [startSlot_frame])

/-- The garbled results counted at a slot close act on head records, and where a boundary has overtaken the slot on the
exponent and the beacon (R42, R155). -/
theorem countClosed_frame (o : OpenSlot) (s : State) : countClosed o s =
    { s with
      fs := { s.fs with beacon := (countClosed o s).fs.beacon }
      hp := { s.hp with heads := (countClosed o s).hp.heads }
      rep := { s.rep with exponent := (countClosed o s).rep.exponent, lastOffered := (countClosed o s).rep.lastOffered,
                          lastGarbled := (countClosed o s).rep.lastGarbled } } := by
  unfold countClosed
  split
  · rename_i b _ _
    have counted := forHeads_keeps (f := recountHead o.record b.counted)
      (P := fun u => u = { s with hp := { s.hp with heads := u.hp.heads } })
      (fun h u k => by rw [recountHead_frame, k]) (s := s) rfl
    unfold recount exponentAfter
    dsimp only
    rw [counted]
  · have counted := forHeads_keeps (f := countGarbled o.record)
      (P := fun u => u = { s with hp := { s.hp with heads := u.hp.heads } })
      (fun h u k => by rw [countGarbled_frame, k]) (s := s) rfl
    rw [counted]

/-- The Crane Link Engine's and the Coverage Unit's part of a slot record (R94 to R97, R48, R53). -/
def handOnLinks (r : SlotRecord) (s : State) : State :=
  forLinks (evaluateLink r) (forHeads (measureHead r) (forLinks (closeExchange r) s))

theorem handOn_eq (o : OpenSlot) (s : State) :
    handOn o s = handOnLinks o.record (registryTakes o.record (countClosed o s)) := rfl

theorem handling_handOnLinks (P : HeadNo → Prop) (r : SlotRecord) (s : State) : Handling P s (handOnLinks r s) :=
  ((Handling.forLinks (fun x s => handling_closeExchange P x s r) s).trans
    (Handling.forEach _ (fun h s => handling_measureHead P s r h) _)).trans
    (Handling.forLinks (fun x s => handling_evaluateLink P x s r) _)

theorem reuse_handOn (o : OpenSlot) {s : State} (law : ReuseLaw s) : ReuseLaw (handOn o s) := by
  rw [handOn_eq]
  refine (handling_handOnLinks (fun _ => True) _ _).reuse ?_
  have counted : ReuseLaw (countClosed o s) :=
    law.congr (by rw [countClosed_frame]) (by rw [countClosed_frame]) (by rw [countClosed_frame])
  exact counted.of_fs (by rw [(registryFrame_registryTakes _ o.record).frame])

theorem reuse_closeFrame (t : Time) {s : State} (law : ReuseLaw s) : ReuseLaw (closeFrame t s) :=
  forHeads_keeps (fun h s => (handling_tickDrain (P := (· ≠ h)) (by simp) t s).reuse)
    (forHeads_keeps (fun h s => (handling_closeStatusWindow (P := (· ≠ h)) (by simp) t s).reuse) law)

theorem reuse_closeSlot {s : State} (law : ReuseLaw s) : ReuseLaw (closeSlot s) := by
  unfold closeSlot
  split
  · exact law
  · rename_i o _
    have ended : ReuseLaw { s with hp := { s.hp with openSlot := none } } := law.of_fs rfl
    have recorded : ∀ s, ReuseLaw s → ReuseLaw (if o.time.slot.1 = 0 then s else handOn o s) := by
      intro s law
      split
      · exact law
      · exact reuse_handOn o law
    have framed : ∀ s, ReuseLaw s → ReuseLaw (if o.time.slot.1 = 23 then closeFrame o.time s else s) := by
      intro s law
      split
      · exact reuse_closeFrame _ law
      · exact law
    have advanced : ∀ s, ReuseLaw s → ReuseLaw (advanceSlot o s) := by
      intro s law
      unfold advanceSlot
      split
      · exact law.of_fs rfl
      · split
        · exact law.congr rfl rfl rfl
        · exact law
    exact advanced _ (framed _ (recorded _ ended))

/-! ## Head links -/

theorem takeReturn_fs (h : HeadNo) (mf : Word16) (frame slot result level : Byte) (bytes : List Byte) (s : State) :
    (takeReturn h mf frame slot result level bytes s).fs = s.fs := by
  unfold takeReturn
  split
  · rfl
  · dsimp only
    split
    · split <;> rfl
    · rfl

theorem reuse_takeStatusRecord (t : Time) (h : HeadNo) (serial : Word32) (fault : Bool) {s : State} (law : ReuseLaw s) :
    ReuseLaw (takeStatusRecord t h serial fault s) :=
  (handling_takeStatusRecord (P := (· ≠ h)) (by simp) t s serial fault).reuse law

theorem reuse_takeHeadMessage (h : HeadNo) (m : HeadMessage) {s : State} (law : ReuseLaw s) :
    ReuseLaw (takeHeadMessage h m s) := by
  unfold takeHeadMessage
  split
  · exact law
  · exact law.of_fs (takeReturn_fs ..)
  · exact reuse_takeStatusRecord _ h _ _ law

theorem reuse_headByte (h : HeadNo) (b : Byte) {s : State} (law : ReuseLaw s) : ReuseLaw (headByte h b s) :=
  forEach_keeps _ (fun m _ _ law => reuse_takeHeadMessage h m law) (law.of_fs rfl)

/-! ## Commands of the Frame Scheduler, the heads and the Coverage Unit -/

theorem reuse_doCoverSet (k hy t w stop : Option Byte) {s : State} (law : ReuseLaw s) :
    ReuseLaw (doCoverSet k hy t w stop s).1 := by
  unfold doCoverSet
  dsimp only
  split
  · exact law.of_fs rfl
  · refine (Handling.forLinks (P := fun _ => True) (fun x s => handling_recomputeStop _ _ x s) _).reuse ?_
    exact law.of_fs rfl

theorem reuse_doPlanStage (restart : Bool) (edits : List PlanEdit) {s : State} (law : ReuseLaw s) :
    ReuseLaw (doPlanStage restart edits s).1 := by
  unfold doPlanStage
  split
  · exact law
  · exact law.congr rfl rfl rfl

theorem reuse_restoreHead {h : HeadNo} {s u : State} (k : restoreHead h s = some u) (law : ReuseLaw s) : ReuseLaw u := by
  unfold restoreHead at k
  split at k
  · rw [← Option.some.inj k]
    exact law.of_fs rfl
  · rw [← Option.some.inj k]
    refine (handling_drainEnded (fun _ => True) h _).reuse ?_
    exact law.of_fs rfl
  · rwa [← Option.some.inj k]
  · cases k
  · cases k

theorem reuse_doHeadRestore (head : Byte) {s : State} (law : ReuseLaw s) : ReuseLaw (doHeadRestore head s).1 := by
  unfold doHeadRestore
  split
  · exact law
  · split
    · exact law
    · rename_i k
      exact reuse_restoreHead k law

theorem reuse_retireHead {h : HeadNo} {s u : State} (k : retireHead h s = some u) (law : ReuseLaw s) : ReuseLaw u := by
  unfold retireHead at k
  split at k
  · rw [← Option.some.inj k]
    exact (handling_startDrain (P := (· ≠ h)) (by simp) _ s).reuse law
  · rw [← Option.some.inj k]
    exact law.of_fs rfl
  · cases k
  · cases k
  · cases k

theorem reuse_doHeadRetire (head : Byte) {s : State} (law : ReuseLaw s) : ReuseLaw (doHeadRetire head s).1 := by
  unfold doHeadRetire
  split
  · exact law
  · split
    · exact law
    · rename_i k
      exact reuse_retireHead k law

/-! ## Crane commands -/

theorem reuse_openLink {s : State} {x : LinkNo} {p : Place} (h : admissible s x p = true) (terminal : Word32)
    (interlock : Word16) (lowMark : Nat) (law : ReuseLaw s) : ReuseLaw (openLink x terminal p interlock lowMark s) := by
  have opened : ReuseLaw (s.setResv x ⟨some p, none⟩) := law.setResv (admits_only h)
  unfold openLink
  dsimp only
  split
  · exact opened.of_fs rfl
  · exact opened.of_fs (by rw [raiseCrane_port]; rfl)

theorem reuse_doCraneOpen (link : Byte) (terminal : Word32) (head period slot : Byte) (interlock : Word16)
    (lowMark : Byte) {s : State} (law : ReuseLaw s) :
    ReuseLaw (doCraneOpen link terminal head period slot interlock lowMark s).1 := by
  unfold doCraneOpen
  split
  · split
    · exact law
    · split
      · exact law
      · split
        · exact law
        · split
          · exact law
          · rename_i k
            exact reuse_openLink (admissionSearch_admissible k) terminal interlock _ law
  · exact law

/-- The close of a link handles it, and returns its list to the pool (R72). -/
theorem handling_closeLink (P : HeadNo → Prop) (t : Time) (x : LinkNo) (s : State) : Handling P s (closeLink t x s) := by
  have released := (handling_setRecord P s x none).trans (handling_releaseAll P t x _)
  unfold closeLink
  generalize releaseAll t x (s.setRecord x none) = u at *
  refine released.trans (.trans ?_ (handling_recomputeStop P t x _))
  exact .of_same rfl rfl rfl rfl (.of_cp rfl)

theorem reuse_doCraneClose (link : Byte) {s : State} (law : ReuseLaw s) : ReuseLaw (doCraneClose link s).1 := by
  unfold doCraneClose
  split
  · exact law
  · split
    · exact law
    · exact (handling_closeLink (fun _ => True) _ _ s).reuse law

theorem doCraneMode_fs (link mode : Byte) (s : State) : (doCraneMode link mode s).1.fs = s.fs := by
  unfold doCraneMode
  split
  · rfl
  · split <;> rfl

theorem doCraneAppend_fs (link : Byte) (es : List EntryVals) (s : State) : (doCraneAppend link es s).fs = s.fs := by
  unfold doCraneAppend refuseAppend
  split
  · simp [raisePlain]
  · split
    · rfl
    · simp [raisePlain, updateLink]

theorem doCraneSplice_fs (link : Byte) (es : List EntryVals) (s : State) : (doCraneSplice link es s).1.fs = s.fs := by
  unfold doCraneSplice
  split
  · rfl
  · split
    · rfl
    · split <;> rfl

theorem doCraneFlush_fs (link : Byte) (s : State) : (doCraneFlush link s).1.fs = s.fs := by
  unfold doCraneFlush
  split
  · rfl
  · dsimp only
    split <;> rfl

theorem doCraneInterlock_fs (link : Byte) (word : Word16) (s : State) : (doCraneInterlock link word s).1.fs = s.fs := by
  unfold doCraneInterlock
  split
  · rfl
  · split <;> rfl

theorem doCraneTest_fs (link : Byte) (n : Word16) (s : State) : (doCraneTest link n s).1.fs = s.fs := by
  unfold doCraneTest
  split
  · rfl
  · dsimp only
    split <;> rfl

theorem reuse_placeLink {s : State} {x : LinkNo} {p : Place} (h : admissible s x p = true) (law : ReuseLaw s) :
    ReuseLaw (placeLink x p s) := (law.setResv (admits_primary h)).of_fs rfl

theorem reuse_recovered (x : LinkNo) {s : State} (law : ReuseLaw s) : ReuseLaw (recovered x s).1 :=
  ((handling_updateLink (fun _ => True) s x _).trans (handling_setHealth _ s.now x _ _)).reuse law

theorem reuse_doCraneRecover (link head : Byte) {s : State} (law : ReuseLaw s) :
    ReuseLaw (doCraneRecover link head s).1 := by
  unfold doCraneRecover
  split
  · exact law
  · split
    · exact law
    · split
      · exact law
      · split
        · exact law
        · split
          · split
            · exact law
            · split
              · exact law
              · split
                · exact law
                · rename_i k
                  exact reuse_recovered _ (reuse_placeLink (admissionSearch_admissible k) law)
          · exact reuse_recovered _ law

theorem reuse_doCraneMove (link head : Byte) {s : State} (law : ReuseLaw s) : ReuseLaw (doCraneMove link head s).1 := by
  unfold doCraneMove
  split
  · split
    · exact law
    · split
      · exact law
      · split
        · exact law
        · split
          · exact law
          · split
            · exact law
            · split
              · exact law.of_fs rfl
              · rename_i k
                exact (handling_enterDual (fun _ => True) _ s (targetSearch_admissible k) true).reuse law
  · exact law

theorem reuse_changeHold (t : Time) {f : State → State} (hf : ∀ s, (f s).fs = s.fs) {s : State} (law : ReuseLaw s) :
    ReuseLaw (changeHold t f s) := by
  unfold changeHold
  dsimp only
  split
  · exact (Handling.forLinks (P := fun _ => True) (fun x s => handling_abortTest _ t x s) _).reuse (law.of_fs (hf s))
  · exact law.of_fs (hf s)

/-! ## Commands of the Registry and the Report Unit -/

theorem doFilterSet_fs (mask : Option Word32) (v : Option FilterVals) (s : State) : (doFilterSet mask v s).1.fs = s.fs := by
  unfold doFilterSet
  split <;> rfl

theorem doProfileSet_fs (p : Byte) (r f : Option Word16) (d e a : Option Byte) (g : Option Word16) (s : State) :
    (doProfileSet p r f d e a g s).1.fs = s.fs := by
  unfold doProfileSet
  split <;> rfl

theorem doUnitRelease_fs (n : EntryName) (s : State) : (doUnitRelease n s).1.fs = s.fs := by
  unfold doUnitRelease
  split
  · rfl
  · dsimp only
    split <;> rfl

theorem doAlarmAck_fs (n : EntryName) (k : Byte) (s : State) : (doAlarmAck n k s).1.fs = s.fs := by
  unfold doAlarmAck
  split
  · rfl
  · dsimp only
    split <;> rfl

/-! ## Queries change nothing -/

theorem doHeadQuery_state (head : Byte) (s : State) : (doHeadQuery head s).1 = s := by
  unfold doHeadQuery
  split <;> rfl

theorem doCraneQuery_state (link : Byte) (s : State) : (doCraneQuery link s).1 = s := by
  unfold doCraneQuery
  split <;> rfl

theorem doUnitQuery_state (n : EntryName) (s : State) : (doUnitQuery n s).1 = s := by
  unfold doUnitQuery
  split
  · rfl
  · dsimp only
    split <;> rfl

/-! ## Quiet reset (R171) -/

theorem reuse_closeIfOpen (t : Time) (x : LinkNo) {s : State} (law : ReuseLaw s) : ReuseLaw (closeIfOpen t x s) := by
  unfold closeIfOpen
  split
  · exact law
  · exact (handling_closeLink (fun _ => True) t x s).reuse law

theorem reuse_quietLinks {s : State} (law : ReuseLaw s) : ReuseLaw (quietLinks s) := by
  have closed := forLinks_keeps (f := closeIfOpen s.now) (fun x _ => reuse_closeIfOpen _ x) law
  unfold quietLinks
  generalize forLinks (closeIfOpen s.now) s = u at *
  exact closed.of_fs rfl

theorem reuse_quietBlocks {s : State} (law : ReuseLaw s) : ReuseLaw (quietBlocks s) := by
  have raised : ReuseLaw (raisePlain s.now .restarted (clearFlags s)) := law.of_fs (by simp [raisePlain, clearFlags])
  have planned : ReuseLaw (quietHeads (quietPlans (raisePlain s.now .restarted (clearFlags s)))) :=
    raised.congr rfl rfl rfl
  unfold quietBlocks
  have closed := reuse_quietLinks planned
  generalize quietLinks _ = u at *
  exact closed.of_fs rfl

/-! ## The Control Port -/

theorem reuse_carryOut (c : HostCmd) {s : State} (law : ReuseLaw s) : ReuseLaw (carryOut c s).1 := by
  cases c with
  | pollEvents | notifySet | identify | planQuery | mapQuery | registryQuery | reportSet | reportQuery | fetchReports
  | fetchAlarms => exact law.of_fs rfl
  | planCommit => exact law.congr rfl rfl rfl
  | quietReset => exact reuse_quietBlocks law
  | planStage restart edits => exact reuse_doPlanStage restart edits law
  | headRestore h => exact reuse_doHeadRestore h law
  | headRetire h => exact reuse_doHeadRetire h law
  | headQuery h => exact law.of_fs (by rw [carryOut, doHeadQuery_state])
  | coverSet k hy t w stop => exact reuse_doCoverSet k hy t w stop law
  | craneOpen l term h p sl il low => exact reuse_doCraneOpen l term h p sl il low law
  | craneClose l => exact reuse_doCraneClose l law
  | craneMode l m => exact law.of_fs (doCraneMode_fs l m s)
  | craneQuery l => exact law.of_fs (by rw [carryOut, doCraneQuery_state])
  | craneAppend l es => exact law.of_fs (doCraneAppend_fs l es s)
  | craneSplice l es => exact law.of_fs (doCraneSplice_fs l es s)
  | craneFlush l => exact law.of_fs (doCraneFlush_fs l s)
  | craneInterlock l w => exact law.of_fs (doCraneInterlock_fs l w s)
  | craneTest l n => exact law.of_fs (doCraneTest_fs l n s)
  | craneRecover l h => exact reuse_doCraneRecover l h law
  | craneMove l h => exact reuse_doCraneMove l h law
  | quayHold code =>
    exact reuse_changeHold s.now (f := fun s => { s with cle := { s.cle with hostHold := code != 0#8 } }) (fun _ => rfl) law
  | filterSet mask v => exact law.of_fs (doFilterSet_fs mask v s)
  | profileSet p r f d e a g => exact law.of_fs (doProfileSet_fs p r f d e a g s)
  | unitQuery n => exact law.of_fs (by rw [carryOut, doUnitQuery_state])
  | unitRelease n => exact law.of_fs (doUnitRelease_fs n s)
  | alarmAck n k => exact law.of_fs (doAlarmAck_fs n k s)

theorem reuse_perform (tag : Byte) (c : HostCmd) {s : State} (law : ReuseLaw s) : ReuseLaw (perform tag c s) := by
  cases c
  case craneAppend l es => exact law.of_fs (doCraneAppend_fs l es s)
  case quietReset => exact reuse_quietBlocks (law.of_fs rfl)
  all_goals exact reuse_carryOut _ (law.of_fs rfl)

theorem reuse_takeFrame (f : Frame) {s : State} (law : ReuseLaw s) : ReuseLaw (takeFrame f s) := by
  unfold takeFrame
  split
  · exact reuse_perform f.tag _ law
  · unfold takeUnknown
    split
    · exact law.of_fs (by simp [raisePlain])
    · exact law.of_fs rfl

theorem reuse_takeWaiting (n : Nat) {s : State} (law : ReuseLaw s) : ReuseLaw (takeWaiting n s) := by
  induction n generalizing s with
  | zero => exact law
  | succ n ih =>
    unfold takeWaiting
    split
    · exact law
    · split
      · exact ih (reuse_takeFrame _ (law.of_fs rfl))
      · exact law

theorem reuse_accept (f : Frame) {s : State} (law : ReuseLaw s) : ReuseLaw (accept f s) := by
  unfold accept
  split
  · exact reuse_takeWaiting _ (law.of_fs rfl)
  · exact law.of_fs (by simp [raisePlain])

theorem reuse_hostCommand (tag : Byte) (c : HostCmd) {s : State} (law : ReuseLaw s) : ReuseLaw (hostCommand tag c s) := by
  unfold hostCommand
  split
  · exact reuse_perform tag c law
  · exact reuse_accept _ law

theorem frameError_fs (s : State) : (frameError s).fs = s.fs := by simp [frameError, raisePlain]

theorem reuse_completeFrame (f : Frame) (check : Word16) {s : State} (law : ReuseLaw s) :
    ReuseLaw (completeFrame f check s) := by
  unfold completeFrame
  split
  · exact reuse_accept f law
  · exact law.of_fs (frameError_fs s)

theorem reuse_advanceRx (bytes : List Byte) {s : State} (law : ReuseLaw s) : ReuseLaw (advanceRx bytes s) := by
  have set : ∀ b, ReuseLaw (setRx b s) := fun b => law.of_fs rfl
  unfold advanceRx
  split
  · split
    · exact set _
    · exact (set _).of_fs (frameError_fs _)
  · split
    · unfold completeRx
      split
      · exact reuse_completeFrame _ _ (set _)
      · exact set _
    · exact set _
  · exact set _

theorem reuse_receiveByte (b : Byte) (stopBit : Bool) {s : State} (law : ReuseLaw s) :
    ReuseLaw (receiveByte b stopBit s) := by
  unfold receiveByte
  split
  · split
    · exact law.of_fs rfl
    · exact law
  · exact law
  · exact law.of_fs ((frameError_fs _).trans rfl)
  · exact reuse_advanceRx _ law

theorem reuse_endTransmission {s : State} (law : ReuseLaw s) : ReuseLaw (endTransmission s) := by
  refine reuse_takeWaiting _ (law.of_fs ?_)
  have lowered : ∀ m u, (lowerPending m u).fs = u.fs := by
    intro m u
    cases m <;> rfl
  unfold beginNext
  split
  · exact lowered ..
  · exact lowered ..
  · rfl

/-! ## Parts of a slot close for one link (log entry 8) -/

theorem reuse_reachThreshold (x : LinkNo) {s : State} (law : ReuseLaw s) : ReuseLaw (reachThreshold x s) := by
  unfold reachThreshold
  split
  · exact law
  · exact (handling_evaluate (fun _ => True) x s _ _).reuse law

theorem exhaustAttempts_fs (u : UnitNo) (s : State) : (exhaustAttempts u s).fs = s.fs := by
  unfold exhaustAttempts
  split
  · rw [(registryStep_countUnanswered s _ u).frame]
  · rfl

/-- A part of a larger event that acts only where it is due keeps what it keeps there (log entry 8). -/
theorem reuse_due {c : Bool} {f : State → State} {s : State} (law : ReuseLaw s) (h : ReuseLaw s → ReuseLaw (f s)) :
    ReuseLaw (if c = true then f s else s) := by
  split
  · exact h law
  · exact law

/-! ## Every step -/

theorem reuseLaw_reset : ReuseLaw State.reset where
  table := by
    have none : table State.reset = [] := by decide
    unfold TableLaw
    rw [none]
    simp
  spacing := by decide
  map := by
    intro sl a b _ _ ha
    simp [State.reset, FrameScheduler.reset, Vector.get_eq_getElem, Cell.isExchange] at ha
  listen := by
    intro h sl x k
    simp [State.reset, FrameScheduler.reset, Vector.get_eq_getElem] at k

theorem whileRunning_reuse {f : State → State} {s t : State} (law : ReuseLaw s) (h : ReuseLaw s → ReuseLaw (f s))
    (e : whileRunning f s = .next t) : ReuseLaw t := by
  cases e
  exact reuse_due law h

theorem exec_reuse (i : Instr) {s t : State} (law : ReuseLaw s) (e : exec i s = .next t) : ReuseLaw t := by
  cases i
  case hardReset =>
    cases e
    exact reuseLaw_reset.of_fs rfl
  case resetnRise =>
    cases e
    unfold resetRises
    split
    · exact law
    · exact reuseLaw_reset.of_fs rfl
  case frameStart => exact whileRunning_reuse law reuse_startFrame e
  case slotStart => exact whileRunning_reuse law reuse_startSlot e
  case slotClose => exact whileRunning_reuse law reuse_closeSlot e
  case unitBecomesPolling u =>
    exact whileRunning_reuse law (fun l => reuse_due l fun l => l.of_fs (by rw [(registryStep_startPolling s u).frame])) e
  case unitBecomesSilentByAge u =>
    exact whileRunning_reuse law (fun l => reuse_due l fun l => l.of_fs (by rw [(registryStep_goSilent s s.now u).frame])) e
  case unitBecomesGone u =>
    exact whileRunning_reuse law (fun l => reuse_due l fun l => l.of_fs (by rw [(registryStep_goGone s s.now u).frame])) e
  case headReturn => exact whileRunning_reuse law (fun l => l.of_fs (takeReturn_fs ..)) e
  case headStatusRecord => exact whileRunning_reuse law (reuse_takeStatusRecord _ _ _ _) e
  case headLinkUp => exact whileRunning_reuse law (fun l => reuse_due l (reuse_takeStatusRecord _ _ _ _)) e
  case headLinkGap => exact whileRunning_reuse law (fun l => l.of_fs rfl) e
  case headLinkByteReceived h b => exact whileRunning_reuse law (reuse_headByte h b) e
  case headMissedAbsent h =>
    exact whileRunning_reuse law (fun l => reuse_due l
      (handling_missStatus (P := (· ≠ h)) (by simp) s.now s).reuse) e
  case drainExpiry h =>
    exact whileRunning_reuse law (fun l => reuse_due l
      (handling_expireDrain (P := (· ≠ h)) (by simp) s.now s).reuse) e
  case recoveryComplete x =>
    exact whileRunning_reuse law (fun l => reuse_due l (handling_stepRecovery (fun _ => True) s.now x s true).reuse) e
  case handoverAbandon x =>
    exact whileRunning_reuse law (fun l => reuse_due l (handling_abandonHandover (fun _ => True) s.now x s).reuse) e
  case testComplete x d =>
    exact whileRunning_reuse law (fun l => reuse_due l (handling_countTestExchange (fun _ => True) s.now x s d.1).reuse) e
  case handoverStart x => exact whileRunning_reuse law (reuse_reachThreshold x) e
  case pollAttemptsExhausted u => exact whileRunning_reuse law (fun l => l.of_fs (exhaustAttempts_fs u s)) e
  case holdinChange level =>
    cases e
    split
    · exact reuse_changeHold s.now (f := setHoldin level) (fun _ => rfl) law
    · exact law.of_fs rfl
  case frameReceived => exact whileRunning_reuse (f := receiveFrame _ _) law (fun l => reuse_completeFrame _ _ (l.of_fs rfl)) e
  case frameGap =>
    refine whileRunning_reuse law (fun l => ?_) e
    unfold frameGapPassed
    split
    · exact l
    · exact l.of_fs ((frameError_fs _).trans rfl)
  case unknownCommand => exact whileRunning_reuse law (reuse_accept _) e
  case messageTransmitted => exact whileRunning_reuse law reuse_endTransmission e
  case controlPortByteReceived b stop => exact whileRunning_reuse law (reuse_receiveByte b stop) e
  all_goals exact whileRunning_reuse law (reuse_hostCommand _ _) e

end Sys2Proof.Machine

open Sys2Proof.Machine in
/-- Settles O54: every operation on links and heads is a `Handling`, which keeps the reuse law; a frame start builds its
map from a table free of collisions and a plan that keeps the spacing; the other commands leave all three. -/
theorem stepKeepsReuseLaw : Obligations.StepKeepsReuseLaw := by
  unfold Obligations.StepKeepsReuseLaw
  intro s t law e
  unfold step at e
  split at e
  · cases e
    exact law
  · rename_i c rest _
    exact exec_reuse c (s := { s with pending := rest }) (law.of_fs rfl) e
end

section
/-! SUPPORT. The reset state, table by table (R7, R23, R25, R46, R60, R77, R126, R139, R157), and the laws there. -/

namespace Sys2Proof.Machine

@[simp] theorem get_replicate {α : Type} {n : Nat} (a : α) (i : Fin n) : (Vector.replicate n a).get i = a := by
  simp [Vector.get_eq_getElem]

@[simp] theorem reset_head (h : HeadNo) : State.reset.head h = HeadRecord.reset := get_replicate _ h
@[simp] theorem reset_link (x : LinkNo) : State.reset.link x = Link.reset := get_replicate _ x
@[simp] theorem reset_record (x : LinkNo) : State.reset.record x = none := get_replicate _ x
@[simp] theorem reset_resv (x : LinkNo) : State.reset.resv x = ⟨none, none⟩ := get_replicate _ x
@[simp] theorem reset_unit (u : UnitNo) : State.reset.unit u = UnitEntry.free := get_replicate _ u
@[simp] theorem reset_cell (h : HeadNo) (sl : SlotNo) : State.reset.cell h sl = .off := by
  simp [State.cell, State.reset, FrameScheduler.reset]

@[simp] theorem reset_table : table State.reset = [] := by
  rw [List.eq_nil_iff_forall_not_mem]
  intro r hr
  rw [mem_table, reset_resv] at hr
  cases h : r.role <;> rw [h] at hr <;> cases hr

/-! ## The laws at reset -/

theorem portLaw_reset : PortLaw State.reset where
  outbound := by decide
  inbound := by decide
  acks := by decide
  reports := by decide
  alarms := by decide

theorem listTotal_reset : listTotal State.reset = 0 := by
  simp [listTotal, Link.reset]

theorem poolLaw_reset : PoolLaw State.reset where
  total := by rw [listTotal_reset]; rfl
  limit x := by simp [Link.reset]
  closed x _ := by simp [Link.reset]

theorem contributes_reset (x : LinkNo) : contributes State.reset x = false := by
  simp [contributes, Link.reset]

theorem stopLaw_reset : StopLaw State.reset where
  member x := by
    rw [contributes_reset]
    simp [State.reset, CraneEngine.reset]
  pin := by
    have none : ¬ ∃ x, contributes State.reset x = true := by simp [contributes_reset]
    rw [decide_eq_false none]
    rfl

theorem scoreLaw_reset : ScoreLaw State.reset := by
  intro x
  rw [reset_link]
  exact ⟨Nat.zero_le _, rfl⟩

theorem qualityLaw_reset : QualityLaw State.reset := by
  intro x w h
  rw [reset_record] at h
  cases h

theorem heldLaw_reset : HeldLaw State.reset := fun x =>
  { closed := by simp [Link.reset]
    empty := fun _ => reset_resv x
    dual := by simp
    both := by simp
    centre := by simp }

theorem headLaw_reset : HeadLaw State.reset where
  held := heldLaw_reset
  reservations := by simp
  units u h k := by simp [UnitEntry.free] at k
  cells h sl k := absurd (reset_cell h sl) k
  entries o h k := by cases k

theorem unitIdLaw_reset : UnitIdLaw State.reset := by
  intro u v hu
  exact absurd (by simp [UnitEntry.free]) hu

theorem pollLaw_reset : PollLaw State.reset := by
  refine ⟨List.nodup_nil, fun u => ?_⟩
  have empty : State.reset.reg.pollQueue = [] := rfl
  rw [empty, reset_unit]
  simp [UnitEntry.free]

/-! ## While RESETN is low (log entry 22) -/

theorem whileRunning_held {f : State → State} {s : State} (h : s.resetn = false) : whileRunning f s = .next s := by
  simp [whileRunning, h]

theorem whileRunning_running {f : State → State} {s : State} (h : s.resetn = true) :
    whileRunning f s = .next (f s) := by
  simp [whileRunning, h]

/-- Every event but the resets and HOLDIN passes a held machine by (R2, R169). -/
theorem exec_held {i : Instr} {s : State} (h : s.resetn = false) (fall : i ≠ .hardReset) (rise : i ≠ .resetnRise)
    (pin : ∀ level, i ≠ .holdinChange level) : exec i s = .next s := by
  cases i
  case hardReset => exact absurd rfl fall
  case resetnRise => exact absurd rfl rise
  case holdinChange level => exact absurd rfl (pin level)
  all_goals exact whileRunning_held h

theorem resetRises_low {s : State} (h : s.resetn = false) :
    resetRises s = { State.reset with holdin := s.holdin, freeUsed := s.freeUsed, pending := s.pending } := by
  simp [resetRises, h]

theorem resetRises_high {s : State} (h : s.resetn = true) : resetRises s = s := by simp [resetRises, h]

end Sys2Proof.Machine

open Sys2Proof Sys2Proof.Machine

/-- Settles O52, each law from the tables of the reset state. -/
theorem resetKeepsEveryLaw : Obligations.ResetKeepsEveryLaw :=
  ⟨portLaw_reset, reuseLaw_reset, poolLaw_reset, stopLaw_reset, scoreLaw_reset, qualityLaw_reset, headLaw_reset,
    unitIdLaw_reset, pollLaw_reset⟩

/-- Settles O2: the events by their meanings, the reset values table by table. -/
theorem resetFallsAndRises : Obligations.ResetFallsAndRises := by
  refine ⟨fun s => rfl, fun s low => congrArg Host.Outcome.next (resetRises_low low),
    fun s high => congrArg Host.Outcome.next (resetRises_high high), fun i s low => exec_held low, rfl, rfl, ?_, ?_, rfl, rfl,
    rfl, rfl, reset_table, reset_head, reset_link, rfl, rfl, rfl, rfl, rfl, reset_record, reset_unit, rfl, rfl, ?_, rfl, ?_,
    rfl, rfl, rfl, rfl, rfl, rfl, rfl, rfl, rfl, rfl, rfl, rfl, rfl, rfl, rfl⟩
  · decide
  · decide
  · decide
  · exact get_replicate _

/-- Settles O41. -/
theorem planCommitSetsPlanReady : Obligations.PlanCommitSetsPlanReady := by
  intro tag s ready
  exact answers_of ready (c := .planCommit) rfl nofun nofun rfl rfl
end

section
/-! SUPPORT. Operands of commands, the plan edits (R8, R174) and quay stop (R107). -/

namespace Sys2Proof.Machine

/-! ## Operands -/

theorem linkNo_none {b : Byte} (h : 24 ≤ b.toNat) : linkNo b = none := objectNo_of_le h

theorem headNo_none {b : Byte} (h : 12 ≤ b.toNat) : headNo b = none := objectNo_of_le h

theorem headNo_isNone {b : Byte} : (headNo b).isNone = true ↔ 12 ≤ b.toNat := by
  unfold headNo objectNo
  split
  · simpa using ‹_›
  · simpa using Nat.le_of_not_lt ‹_›

theorem namedUnit_index_none {s : State} {n : Word32} (h : 1024 ≤ n.toNat) : namedUnit s (.index n) = .error .range := by
  unfold namedUnit
  dsimp only
  rw [objectNo_of_le h]

theorem findUnit_none {s : State} {id : Word32} (h : ∀ u, (s.unit u).state = .free ∨ (s.unit u).unitId ≠ id) :
    findUnit s id = none := by
  refine List.find?_eq_none.mpr fun u _ => ?_
  simp only [holdsId, Bool.and_eq_true, bne_iff_ne, beq_iff_eq, not_and]
  exact fun held => (h u).resolve_left held

theorem namedUnit_id_none {s : State} {id : Word32} (h : ∀ u, (s.unit u).state = .free ∨ (s.unit u).unitId ≠ id) :
    namedUnit s (.unitId id) = .error (.state .notListed) := by
  unfold namedUnit
  dsimp only
  rw [findUnit_none h]

theorem doUnitQuery_error {s : State} {n : EntryName} {r : Reply} (h : namedUnit s n = .error r) :
    (doUnitQuery n s).2 = r := by
  unfold doUnitQuery
  rw [h]

/-! ## What a host command that is carried out leaves -/

/-- The next state of a command with a reply that is carried out at once: its operation on the state that holds the
reply. -/
theorem exec_answered {s : State} (ready : Ready s) (tag : Byte) {c : HostCmd} (w : c.wf = true)
    (a : ∀ l es, c ≠ .craneAppend l es) (q : c ≠ .quietReset) :
    exec (hostInstr tag c) s = .next (carryOut c (queueReply (.reply c.kind tag (carryOut c s).2) s)).1 := by
  rw [exec_ready ready tag w, perform_replied tag c s a q]

/-- A reply once queued is still waiting after an event that makes raises alone. -/
theorem OnlyRaises.replied {m : Message} {s u : State} (h : OnlyRaises (queueReply m s) u) : m ∈ u.cp.replies := by
  rw [h.replies]
  simp

/-! ## Plan edits (R8, R174) -/

theorem byte_eq_iff {b : Byte} {n : Nat} (h : n < 256) : b = BitVec.ofNat 8 n ↔ b.toNat = n := by
  rw [← BitVec.toNat_inj, BitVec.toNat_ofNat, Nat.mod_eq_of_lt (by omega)]

/-- The edits that refuse their command (R8 stage 1). -/
theorem editOutOfRange_iff {e : PlanEdit} : editOutOfRange e = true ↔
    (e.code = 1#8 ∨ e.code = 3#8) ∧ 12 ≤ e.object.toNat ∨ e.code = 2#8 ∧ (e.object = 0#8 ∨ 24 ≤ e.object.toNat) := by
  rw [byte_eq_iff (n := 1) (by omega), byte_eq_iff (n := 2) (by omega), byte_eq_iff (n := 3) (by omega),
    byte_eq_iff (n := 0) (by omega)]
  unfold editOutOfRange
  split
  · rw [headNo_isNone]; omega
  · rw [headNo_isNone]; omega
  · simp only [Bool.or_eq_true, decide_eq_true_eq]; omega
  · rename_i n1 n3 n2
    have n1 : e.code.toNat ≠ 1 := n1
    have n2 : e.code.toNat ≠ 2 := n2
    have n3 : e.code.toNat ≠ 3 := n3
    simp only [Bool.false_eq_true, false_iff]
    omega

section
variable {p : Plan} {e : PlanEdit}

theorem applyEdit_headGroup {h : HeadNo} (code : e.code = 1#8) (object : e.object.toNat = h.1) :
    applyEdit p e = { p with headGroup := put p.headGroup h (readGroup e.value) } := by
  simp [applyEdit, code, headNo_eq object]

theorem applyEdit_slotGroup {sl : SlotNo} (code : e.code = 2#8) (object : e.object.toNat = sl.1) :
    applyEdit p e = { p with slotGroup := put p.slotGroup sl (readGroup e.value) } := by
  simp [applyEdit, code, objectNo, object]

theorem applyEdit_allowed {h : HeadNo} (code : e.code = 3#8) (object : e.object.toNat = h.1) :
    applyEdit p e = { p with allowed := put p.allowed h (e.value &&& 0xFFFFFE#24) } := by
  simp [applyEdit, code, headNo_eq object]

theorem applyEdit_maxPolls (code : e.code = 4#8) : applyEdit p e = { p with maxPolls := readMaxPolls e.value } := by
  simp [applyEdit, code]

theorem applyEdit_order (code : e.code = 5#8) : applyEdit p e = { p with order := readOrder e.value } := by
  simp [applyEdit, code]

theorem applyEdit_other (code : e.code = 0#8 ∨ 5 < e.code.toNat) : applyEdit p e = p := by
  rw [byte_eq_iff (n := 0) (by omega)] at code
  unfold applyEdit
  split
  case h_6 => rfl
  all_goals omega

end

/-! ## Quay stop (R107) -/

/-- A recomputation of quay stop acts on the contributions, QSTOP and the Control Port alone. -/
theorem recomputeStop_frame (t : Time) (x : LinkNo) (s : State) : recomputeStop t x s =
    { s with cle := { s.cle with contributions := withMember s.cle.contributions x.1 (contributes s x)
                                 qstop := withMember s.cle.contributions x.1 (contributes s x) != 0#24 }
             cp := (recomputeStop t x s).cp } := by
  unfold recomputeStop
  dsimp only
  split
  · rfl
  · rw [raisePlain, raise_port]

theorem getLsbD_withMember {n : Nat} (set : BitVec n) (i j : Nat) (b : Bool) (h : i < n) :
    (withMember set i b).getLsbD j = if i = j then b else set.getLsbD j := by
  unfold withMember
  by_cases e : i = j
  · subst e
    cases b <;> simp [h]
  · cases b
    · by_cases k : j < n
      · simp [e, k, Ne.symm e]
      · simp [e, BitVec.getLsbD_of_ge _ _ (Nat.le_of_not_lt k)]
    · simp [e]

/-- Quay stop reads mode, latest status and health of a link, and stop-on-lost. -/
theorem contributes_congr {s u : State} (links : u.cle.links = s.cle.links)
    (stop : u.cov.settings.stopOnLost = s.cov.settings.stopOnLost) (x : LinkNo) : contributes u x = contributes s x := by
  unfold contributes State.link
  rw [links, stop]

theorem contributes_recomputeStop (t : Time) (x y : LinkNo) (s : State) :
    contributes (recomputeStop t x s) y = contributes s y :=
  contributes_congr (by rw [recomputeStop_frame]) (by rw [recomputeStop_frame]) y

/-- QSTOP's level is whether some link contributes. -/
theorem level_iff (set : BitVec 24) : (set != 0#24) = decide (∃ x : LinkNo, set.getLsbD x.1 = true) := by
  rw [Bool.eq_iff_iff, bne_iff_ne, decide_eq_true_iff]
  constructor
  · intro ne
    by_contra none
    refine ne (BitVec.eq_of_getLsbD_eq fun i hi => ?_)
    rw [BitVec.getLsbD_zero]
    exact Bool.eq_false_iff.mpr fun k => none ⟨⟨i, hi⟩, k⟩
  · rintro ⟨x, k⟩ rfl
    simp at k

/-- Every contribution recomputed, quay stop is what the links show. -/
theorem stopLaw_of_recomputed (t : Time) (s : State) : StopLaw (forLinks (recomputeStop t) s) := by
  have same : ∀ l : List LinkNo, ∀ u y, contributes (forEach l (recomputeStop t) u) y = contributes u y :=
    fun l u y => forEach_view (contributes · y) (fun x v => contributes_recomputeStop t x y v) l u
  have bits : ∀ l : List LinkNo, ∀ u : State, ∀ y, (forEach l (recomputeStop t) u).cle.contributions.getLsbD y.1 =
      if y ∈ l then contributes u y else u.cle.contributions.getLsbD y.1 := by
    intro l
    induction l with
    | nil => simp
    | cons x l ih =>
      intro u y
      rw [forEach_cons, ih, contributes_recomputeStop, recomputeStop_frame]
      dsimp only
      rw [getLsbD_withMember _ _ _ _ x.2]
      by_cases e : x = y
      · subst e; simp
      · have : ¬ x.1 = y.1 := fun k => e (Fin.ext k)
        simp [this, Ne.symm e]
  have level : ∀ l : List LinkNo, ∀ u : State, u.cle.qstop = (u.cle.contributions != 0#24) →
      (forEach l (recomputeStop t) u).cle.qstop = ((forEach l (recomputeStop t) u).cle.contributions != 0#24) :=
    fun l u k => forEach_keeps (P := fun v => v.cle.qstop = (v.cle.contributions != 0#24)) l
      (fun x _ v _ => by rw [recomputeStop_frame]) k
  have member : ∀ y : LinkNo, (forLinks (recomputeStop t) s).cle.contributions.getLsbD y.1 =
      contributes (forLinks (recomputeStop t) s) y := by
    intro y
    rw [forLinks, bits, same]
    simp
  refine ⟨member, ?_⟩
  have first : (List.finRange 24) = 0 :: (List.finRange 24).tail := by decide
  have recomputed : (forLinks (recomputeStop t) s).cle.qstop =
      ((forLinks (recomputeStop t) s).cle.contributions != 0#24) := by
    rw [forLinks, first, forEach_cons]
    generalize (List.finRange 24).tail = rest
    exact level rest _ (by rw [recomputeStop_frame])
  rw [recomputed, level_iff]
  simp only [member]

/-- Recomputing quay stop for links in turn acts on the contributions, QSTOP and the Control Port alone. -/
theorem forLinks_recomputeStop_frame (t : Time) (s : State) : forLinks (recomputeStop t) s =
    { s with cle := { s.cle with contributions := (forLinks (recomputeStop t) s).cle.contributions
                                 qstop := (forLinks (recomputeStop t) s).cle.qstop }
             cp := (forLinks (recomputeStop t) s).cp } :=
  forLinks_keeps (P := fun u => u = { s with cle := { s.cle with contributions := u.cle.contributions
                                                                 qstop := u.cle.qstop }, cp := u.cp })
    (fun x u k => by rw [recomputeStop_frame, k]) rfl

theorem StopLaw.congr {s u : State} (law : StopLaw s) (cle : u.cle = s.cle)
    (stop : u.cov.settings.stopOnLost = s.cov.settings.stopOnLost) : StopLaw u where
  member x := by rw [contributes_congr (by rw [cle]) stop, cle, law.member]
  pin := by simp only [contributes_congr (s := s) (by rw [cle]) stop, cle, law.pin]

/-- COVER SET acts on the settings, quay stop and the Control Port alone (R45, R107). -/
theorem doCoverSet_frame (k hy t w stop : Option Byte) (s : State) : (doCoverSet k hy t w stop s).1 =
    { s with
      cov := { s.cov with settings := coverAfter s.cov.settings k hy t w stop }
      cle := { s.cle with contributions := (doCoverSet k hy t w stop s).1.cle.contributions
                          qstop := (doCoverSet k hy t w stop s).1.cle.qstop }
      cp := (doCoverSet k hy t w stop s).1.cp } := by
  unfold doCoverSet
  dsimp only
  split
  · rfl
  · exact forLinks_recomputeStop_frame _ _

theorem doCoverSet_kept (k hy t w stop : Option Byte) {s : State}
    (same : (coverAfter s.cov.settings k hy t w stop).stopOnLost = s.cov.settings.stopOnLost) :
    (doCoverSet k hy t w stop s).1 = { s with cov := { s.cov with settings := coverAfter s.cov.settings k hy t w stop } } := by
  unfold doCoverSet
  dsimp only
  rw [if_pos same]

theorem stopLaw_doCoverSet (k hy t w stop : Option Byte) {s : State} (law : StopLaw s) :
    StopLaw (doCoverSet k hy t w stop s).1 := by
  by_cases same : (coverAfter s.cov.settings k hy t w stop).stopOnLost = s.cov.settings.stopOnLost
  · rw [doCoverSet_kept k hy t w stop same]
    exact law.congr rfl same
  · unfold doCoverSet
    dsimp only
    rw [if_neg same]
    exact stopLaw_of_recomputed _ _

theorem replies_doCoverSet (k hy t w stop : Option Byte) (s : State) :
    (doCoverSet k hy t w stop s).1.cp.replies = s.cp.replies := by
  unfold doCoverSet
  dsimp only
  split
  · rfl
  · rw [(Handling.forLinks (P := fun _ => True) (fun x u => handling_recomputeStop _ s.now x u) _).port.replies]

end Sys2Proof.Machine

open Sys2Proof Sys2Proof.Machine

/-- Settles O38. -/
theorem queriesChangeNoState : Obligations.QueriesChangeNoState := by
  refine ⟨fun tag s ready => ⟨?_, ?_, ?_, ?_, ?_⟩, fun tag link s ready => ⟨fun out => ?_, fun x eq => ?_⟩,
    fun tag entry s ready => ⟨?_, ?_, ?_⟩⟩
  · exact answers_of ready (c := .identify) rfl nofun nofun rfl rfl
  · exact answers_of ready (c := .planQuery) rfl nofun nofun rfl rfl
  · exact answers_of ready (c := .mapQuery) rfl nofun nofun rfl rfl
  · exact answers_of ready (c := .registryQuery) rfl nofun nofun rfl rfl
  · exact answers_of ready (c := .reportQuery) rfl nofun nofun rfl rfl
  · exact answers_of ready (c := .craneQuery link) rfl nofun nofun (by simp [carryOut, doCraneQuery, linkNo_none out])
      (doCraneQuery_state ..)
  · exact answers_of ready (c := .craneQuery link) rfl nofun nofun
      (by simp only [carryOut, doCraneQuery, linkNo_eq eq]; rfl) (doCraneQuery_state ..)
  · rintro n rfl out
    exact answers_of ready (c := .unitQuery (.index n)) rfl nofun nofun
      (by rw [carryOut, doUnitQuery_error (namedUnit_index_none out)]) (by rw [carryOut, doUnitQuery_state, id])
  · rintro uid rfl none
    exact answers_of ready (c := .unitQuery (.unitId uid)) rfl nofun nofun
      (by rw [carryOut, doUnitQuery_error (namedUnit_id_none none)]) (by rw [carryOut, doUnitQuery_state, id])
  · intro u named
    refine ⟨fun free => ?_, fun held => ⟨goneAge s.now.mf (s.unit u), queuePlace s u, ?_, ?_, ?_, ?_, ?_⟩⟩
    · exact answers_of ready (c := .unitQuery entry) rfl nofun nofun
        (by simp [carryOut, doUnitQuery, named, free]) (by rw [carryOut, doUnitQuery_state, id])
    · exact answers_of ready (c := .unitQuery entry) rfl nofun nofun
        (by simp only [carryOut, doUnitQuery, named, if_neg held]; rfl) (by rw [carryOut, doUnitQuery_state, id])
    · intro other
      simp [queuePlace, other]
    · intro polling
      simp [queuePlace, polling]
    · intro other
      unfold goneAge
      split
      · exact absurd ‹_› other
      · rfl
    · intro gone
      unfold goneAge
      rw [gone]
      cases (s.unit u).goneSince <;> rfl

/-- Settles O40: the refusals by `editOutOfRange_iff`, the edits one by one, and quay stop by `stopLaw_doCoverSet`. -/
theorem planStageAndCoverSetAreAnswered : Obligations.PlanStageAndCoverSetAreAnswered := by
  refine ⟨⟨fun tag restart edits s ready fits => ⟨?_, ?_⟩, fun p e => ⟨?_, ?_, ?_, ?_, ?_, applyEdit_other⟩⟩, ?_⟩
  · rintro ⟨e, mem, out⟩
    have refused : edits.any editOutOfRange = true := List.any_eq_true.mpr ⟨e, mem, editOutOfRange_iff.mpr out⟩
    exact answers_of ready (c := .planStage restart edits) (by simpa [HostCmd.wf] using fits) nofun nofun
      (by simp [carryOut, doPlanStage, refused]) (by simp [carryOut, doPlanStage, refused])
  · rintro inRange p rfl
    have taken : edits.any editOutOfRange = false := by
      refine List.any_eq_false.mpr fun e mem => ?_
      rw [editOutOfRange_iff]
      obtain ⟨heads, slots⟩ := inRange e mem
      rintro (⟨code, out⟩ | ⟨code, zero | out⟩)
      · have := heads code; omega
      · exact (slots code).1 zero
      · have := (slots code).2; omega
    exact answers_of ready (c := .planStage restart edits) (by simpa [HostCmd.wf] using fits) nofun nofun
      (by simp [carryOut, doPlanStage, taken]) (by simp [carryOut, doPlanStage, taken])
  · intro h code object
    rw [applyEdit_headGroup code object]
    simp [readGroup]
  · intro sl code object
    rw [applyEdit_slotGroup code object]
    simp [readGroup]
  · exact fun h => applyEdit_allowed
  · intro code
    rw [applyEdit_maxPolls code]
    simp [readMaxPolls]
  · exact applyEdit_order
  · intro tag k hy t w st s ready
    have next := exec_answered ready tag (c := .coverSet k hy t w st) rfl nofun nofun
    generalize hm : Message.reply _ tag _ = m at next
    have frame := doCoverSet_frame k hy t w st (queueReply m s)
    have settings : (doCoverSet k hy t w st (queueReply m s)).1.cov.settings = coverAfter s.cov.settings k hy t w st := by
      rw [frame]; rfl
    refine ⟨_, next, ?_, ?_, ?_, ?_, ?_⟩
    · simp only [carryOut, settings]
      simp [coverAfter, clamp, bne, beq_eq_decide]
    · simp only [carryOut, settings, replies_doCoverSet]
      rw [← hm]
      simp [carryOut, doCoverSet, HostCmd.kind]
    · exact fun law => stopLaw_doCoverSet _ _ _ _ _ (law.congr rfl rfl)
    · intro same
      simp only [carryOut, settings] at same ⊢
      rw [doCoverSet_kept (s := queueReply m s) _ _ _ _ _ same]
      rfl
    · simp only [carryOut]
      conv_lhs => rw [frame]
      rw [settings]
      rfl
end

section
/-! SUPPORT. The admission search (R66), the release of a link's reservations (R21, R65) and the close of a link (R72),
exactly. -/

namespace Sys2Proof.Machine

/-! ## The admission search (R66) -/

theorem mem_searchSlots {p sl : SlotNo} (h : p ≠ 0) : sl ∈ searchSlots p ↔ sl ≠ 0 := by
  simp only [searchSlots, List.mem_append, List.mem_filter, List.mem_finRange, true_and, Bool.and_eq_true, decide_eq_true_eq]
  have := slot_ne_zero.mpr h
  rw [← slot_ne_zero, Fin.le_def, Fin.lt_def]
  omega

/-- The search comes to its slots in the order of their offset from the preferred one. -/
theorem searchSlots_ordered (p : SlotNo) :
    (searchSlots p).Pairwise fun a b => searchOffset p a < searchOffset p b := by
  have rising := List.pairwise_lt_finRange 24
  refine List.pairwise_append.mpr ⟨?_, ?_, ?_⟩
  · refine List.Pairwise.imp_of_mem (fun {a b} ha hb lt => ?_) (rising.filter _)
    simp only [List.mem_filter, decide_eq_true_eq] at ha hb
    simp only [searchOffset, ha.2, hb.2, if_true]
    have := ha.2
    rw [Fin.le_def] at this
    rw [Fin.lt_def] at lt
    omega
  · refine List.Pairwise.imp_of_mem (fun {a b} ha hb lt => ?_) (rising.filter _)
    simp only [List.mem_filter, Bool.and_eq_true, decide_eq_true_eq] at ha hb
    simp only [searchOffset, Fin.not_le.mpr ha.2.2, Fin.not_le.mpr hb.2.2, if_false]
    have := ha.2.2
    rw [Fin.lt_def] at this lt
    omega
  · intro a ha b hb
    simp only [List.mem_filter, Bool.and_eq_true, decide_eq_true_eq] at ha hb
    simp only [searchOffset, ha.2, Fin.not_le.mpr hb.2.2, if_true, if_false]
    have := ha.2
    rw [Fin.le_def] at this
    omega

/-- The places the admission search tries, in its order. -/
def searchPlaces (h : HeadNo) (period : Period) (preferred : SlotNo) : List Place :=
  (searchSlots preferred).flatMap fun sl => (List.range period.frames).map fun ph => ⟨h, sl, period, ph⟩

theorem mem_searchPlaces {h : HeadNo} {period : Period} {preferred : SlotNo} (ne : preferred ≠ 0) {p : Place} :
    p ∈ searchPlaces h period preferred ↔ p.head = h ∧ p.period = period ∧ p.slot ≠ 0 ∧ p.phase < period.frames := by
  simp only [searchPlaces, List.mem_flatMap, List.mem_map, List.mem_range, mem_searchSlots ne]
  constructor
  · rintro ⟨sl, h0, ph, hp, rfl⟩
    exact ⟨rfl, rfl, h0, hp⟩
  · obtain ⟨g, sl, per, ph⟩ := p
    rintro ⟨rfl, rfl, h0, hp⟩
    exact ⟨sl, h0, ph, hp, rfl⟩

/-- The order of the admission search: by slots, then by phases (R66). -/
def TriedBefore (preferred : SlotNo) (p q : Place) : Prop :=
  searchOffset preferred p.slot < searchOffset preferred q.slot ∨ p.slot = q.slot ∧ p.phase < q.phase

theorem searchPlaces_ordered (h : HeadNo) (period : Period) (preferred : SlotNo) :
    (searchPlaces h period preferred).Pairwise (TriedBefore preferred) := by
  refine List.pairwise_flatMap.mpr ⟨fun sl _ => ?_, (searchSlots_ordered preferred).imp fun lt => ?_⟩
  · exact List.pairwise_map.mpr (List.pairwise_lt_range.imp fun lt => .inr ⟨rfl, lt⟩)
  · simp only [List.mem_map]
    rintro _ ⟨_, -, rfl⟩ _ ⟨_, -, rfl⟩
    exact .inl lt

/-- In an ordered list the search finds the member before which none fits. -/
theorem find?_of_least {α : Type} {R : α → α → Prop} {f : α → Bool} {l : List α} (ordered : l.Pairwise R) {a : α}
    (mem : a ∈ l) (fits : f a = true) (least : ∀ b ∈ l, f b = true → ¬ R b a) : l.find? f = some a := by
  induction l with
  | nil => cases mem
  | cons b l ih =>
    obtain ⟨before, ordered⟩ := List.pairwise_cons.mp ordered
    rw [List.find?_cons]
    rcases List.mem_cons.mp mem with rfl | mem
    · rw [fits]
    · cases hb : f b with
      | true => exact absurd (before a mem) (least b (List.mem_cons_self ..) hb)
      | false => exact ih ordered mem fun c hc => least c (List.mem_cons_of_mem _ hc)

/-- The model's admission search finds the first admissible place (R66). -/
theorem admissionSearch_of_first {s : State} {x : LinkNo} {h : HeadNo} {period : Period} {preferred : SlotNo} {p : Place}
    (ne : preferred ≠ 0) (first : FirstAdmissible s x h period preferred p) :
    admissionSearch s x h period preferred = some p := by
  obtain ⟨head, per, slot, phase, fits, least⟩ := first
  refine find?_of_least (searchPlaces_ordered h period preferred)
    ((mem_searchPlaces ne).mpr ⟨head, per, slot, phase⟩) fits fun q mem hq => ?_
  obtain ⟨qhead, qper, -, qphase⟩ := (mem_searchPlaces ne).mp mem
  rintro (lt | ⟨same, lt⟩) <;> rcases least q qhead qper qphase hq with le | ⟨same', le⟩
  · omega
  · rw [same'] at lt; omega
  · rw [same] at le; omega
  · omega

/-- It reports NOSLOT where no place is admissible. -/
theorem admissionSearch_of_none {s : State} {x : LinkNo} {h : HeadNo} {period : Period} {preferred : SlotNo}
    (ne : preferred ≠ 0) (none : ∀ p : Place, p.head = h → p.period = period → p.phase < p.period.frames →
      admissible s x p = false) : admissionSearch s x h period preferred = .none := by
  refine List.find?_eq_none.mpr fun p mem => ?_
  obtain ⟨head, per, -, phase⟩ := (mem_searchPlaces ne).mp mem
  rw [none p head per (per ▸ phase)]
  decide

theorem readPreferred_ne (b : Byte) : readPreferred b ≠ 0 := by
  rw [← slot_ne_zero]
  simp only [readPreferred, clamp]
  omega

/-! ## The first due frame (R70) -/

/-- A frame number some frames later. -/
theorem frame_add (f : Fin 16) (k : Nat) : (f + Fin.ofNat 16 k).1 = (f.1 + k) % 16 := by
  simp [Fin.add_def]

/-- A place whose phase is below its period is due within one period from every frame. -/
theorem due_within {p : Place} (phase : p.phase < p.period.frames) (f : Fin 16) :
    ∃ k < p.period.frames, due p (f + 1 + Fin.ofNat 16 k) = true := by
  have one : f + 1 = f + Fin.ofNat 16 1 := rfl
  have frame : ∀ k, (f + 1 + Fin.ofNat 16 k).1 = (f.1 + 1 + k) % 16 := by
    intro k
    rw [frame_add, one, frame_add]
    omega
  refine ⟨(p.phase + 16 - (f.1 + 1)) % p.period.frames, Nat.mod_lt _ (by omega), ?_⟩
  simp only [due, frame, beq_iff_eq]
  have := f.2
  revert phase
  cases p.period <;> simp only [Period.frames] <;> omega

/-- R70: the frame named is the first later one in which the place is due. -/
theorem framesToDue_spec {p : Place} (phase : p.phase < p.period.frames) (f : Fin 16) :
    1 ≤ framesToDue p f ∧ framesToDue p f ≤ p.period.frames ∧ due p (f + Fin.ofNat 16 (framesToDue p f)) = true ∧
      ∀ k, 1 ≤ k → k < framesToDue p f → due p (f + Fin.ofNat 16 k) = false := by
  have shift : ∀ k, f + 1 + Fin.ofNat 16 k = f + Fin.ofNat 16 (k + 1) := by
    intro k
    apply Fin.ext
    have one : f + 1 = f + Fin.ofNat 16 1 := rfl
    rw [frame_add, frame_add, one, frame_add]
    omega
  obtain ⟨k, hk, dk⟩ := due_within phase f
  have small : p.period.frames ≤ 4 := by cases p.period <;> decide
  cases found : (List.range 16).find? fun k => due p (f + 1 + Fin.ofNat 16 k) with
  | none =>
    have := List.find?_eq_none.mp found k (List.mem_range.mpr (by omega))
    exact absurd dk this
  | some n =>
    rw [framesToDue, found]
    obtain ⟨-, -, least⟩ := List.find?_range_eq_some.mp found
    have dn := List.find?_some found
    refine ⟨by simp, ?_, ?_, ?_⟩
    · by_contra far
      have := least k (by simp only [Option.getD_some] at far; omega)
      rw [dk] at this
      cases this
    · rw [← shift]
      exact dn
    · intro j one lt
      have := least (j - 1) (by simp only [Option.getD_some] at lt; omega)
      rw [shift, Nat.sub_add_cancel one] at this
      simpa using this

/-! ## Releases, exactly (R21, R34, R65) -/

section
variable (t : Time) (x : LinkNo) (s : State)

/-- Drain completion acts on heads, the slot in progress, the records, the units and the Control Port. -/
theorem testDrain_frame (h : HeadNo) : testDrain t h s =
    { s with hp := (testDrain t h s).hp, cov := { s.cov with records := (testDrain t h s).cov.records }
             reg := (testDrain t h s).reg, cp := (testDrain t h s).cp } := by
  unfold testDrain completeDrain
  split
  · dsimp only
    rw [raiseHead_port]
    rfl
  · rfl

/-- No record appears with a drain completion (R50). -/
theorem record_testDrain_none (h : HeadNo) {y : LinkNo} (k : s.record y = none) :
    (testDrain t h s).record y = none := by
  unfold testDrain completeDrain
  split
  · dsimp only
    rw [raiseHead_port]
    show ((s.cov.records.map _).get y) = none
    have k : s.cov.records.get y = none := k
    rw [Vector.get_eq_getElem] at k
    simp [Vector.get_eq_getElem, k]
  · exact k

/-- The release of a link's reservation at `p`, in the form shared by both roles. -/
def released (p : Place) (r : Held) : State := testDrain t p.head (quietCells x p (s.setResv x r))

theorem releasePrimary_eq : releasePrimary t x s = match (s.resv x).primary with
    | none => s
    | some p => released t x s p { s.resv x with primary := none } := rfl

theorem releaseTarget_eq : releaseTarget t x s = match (s.resv x).target with
    | none => s
    | some p => released t x s p { s.resv x with target := none } := rfl

theorem released_fs (p : Place) (r : Held) : (released t x s p r).fs =
    { s.fs with resv := put s.fs.resv x r, map := (quietCells x p (s.setResv x r)).fs.map } := by
  rw [released, testDrain_frame, quietCells_frame]
  rfl

theorem released_cle (p : Place) (r : Held) : (released t x s p r).cle = s.cle := by
  rw [released, testDrain_frame, quietCells_frame]
  rfl

theorem released_resv (p : Place) (r : Held) (y : LinkNo) : (released t x s p r).resv y = if x = y then r else s.resv y := by
  unfold State.resv
  rw [released_fs]
  exact get_put ..

theorem released_record_none (p : Place) (r : Held) {y : LinkNo} (k : s.record y = none) :
    (released t x s p r).record y = none := by
  refine record_testDrain_none _ _ _ ?_
  rw [quietCells_frame]
  exact k

/-- What a release turns QUIET (R21). -/
def Quietens (p : Place) (h : HeadNo) (sl : SlotNo) : Prop :=
  Quiets s x p ∧ sl = p.slot ∧ (h = p.head ∨ dist h p.head = 1 ∧ s.cell h sl = .listen x)

theorem released_cell (p : Place) (r : Held) (h : HeadNo) (sl : SlotNo) :
    (Quietens x s p h sl → (released t x s p r).cell h sl = .quiet) ∧
    (¬ Quietens x s p h sl → (released t x s p r).cell h sl = s.cell h sl) := by
  have cell : (released t x s p r).cell h sl = (quietCells x p (s.setResv x r)).cell h sl := by
    unfold State.cell
    rw [released_fs]
  rw [cell]
  exact cell_quietCells x p (s.setResv x r) h sl

/-- After the release of both reservations the link holds none, and the Crane Link Engine and the Report Unit stand. -/
theorem releaseAll_resv (y : LinkNo) : (releaseAll t x s).resv y = if x = y then ⟨none, none⟩ else s.resv y := by
  have primary : ∀ y, (releasePrimary t x s).resv y = if x = y then { s.resv x with primary := none } else s.resv y := by
    intro y
    rw [releasePrimary_eq]
    split
    · rename_i k
      split
      · subst y
        cases h : s.resv x
        rw [h] at k
        simp_all
      · rfl
    · exact released_resv ..
  rw [releaseAll, releaseTarget_eq]
  split
  · rename_i k
    rw [primary, if_pos rfl] at k
    rw [primary]
    split
    · simp_all
    · rfl
  · rw [released_resv, primary, primary]
    simp only [if_true]
    split <;> rfl

theorem releasePrimary_cle : (releasePrimary t x s).cle = s.cle := by
  rw [releasePrimary_eq]
  split
  · rfl
  · exact released_cle ..

theorem releaseTarget_cle : (releaseTarget t x s).cle = s.cle := by
  rw [releaseTarget_eq]
  split
  · rfl
  · exact released_cle ..

theorem releaseAll_cle : (releaseAll t x s).cle = s.cle := by
  rw [releaseAll, releaseTarget_cle, releasePrimary_cle]

theorem releaseAll_record_none {y : LinkNo} (k : s.record y = none) : (releaseAll t x s).record y = none := by
  have primary : (releasePrimary t x s).record y = none := by
    rw [releasePrimary_eq]
    split
    · exact k
    · exact released_record_none _ _ _ _ _ k
  rw [releaseAll, releaseTarget_eq]
  split
  · exact primary
  · exact released_record_none _ _ _ _ _ primary

/-- The cells of the map that both releases turn QUIET are those of the release as the manual has it (R21). -/
theorem released_iff (h : HeadNo) (sl : SlotNo) : Released s x h sl ↔
    ∃ p, ((s.resv x).primary = some p ∨ (s.resv x).target = some p) ∧ Quietens x s p h sl := by
  unfold Released Quietens Quiets
  simp only [unstarted_iff]
  constructor
  · rintro ⟨p, r, held, rfl, slot, crane, near⟩
    exact ⟨p, held, ⟨slot, r, crane⟩, rfl, near⟩
  · rintro ⟨p, held, ⟨slot, r, crane⟩, rfl, near⟩
    exact ⟨p, r, held, rfl, slot, crane, near⟩

theorem releaseAll_cell (h : HeadNo) (sl : SlotNo) : (Released s x h sl → (releaseAll t x s).cell h sl = .quiet) ∧
    (¬ Released s x h sl → (releaseAll t x s).cell h sl = s.cell h sl) := by
  have target : (releasePrimary t x s).resv x = { s.resv x with primary := none } ∧
      (∀ sl, unstarted (releasePrimary t x s) sl = unstarted s sl) := by
    rw [releasePrimary_eq]
    split
    · rename_i k
      refine ⟨?_, fun _ => rfl⟩
      cases h : s.resv x
      rw [h] at k
      simp_all
    · refine ⟨by rw [released_resv, if_pos rfl], fun sl => ?_⟩
      unfold unstarted State.now
      rw [released_fs]
  have primary : ∀ h sl, ((∃ p, (s.resv x).primary = some p ∧ Quietens x s p h sl) →
        (releasePrimary t x s).cell h sl = .quiet) ∧
      ((¬ ∃ p, (s.resv x).primary = some p ∧ Quietens x s p h sl) →
        (releasePrimary t x s).cell h sl = s.cell h sl) := by
    intro h sl
    rw [releasePrimary_eq]
    split
    · rename_i k
      simp [k]
    · rename_i p k
      simp only [k, Option.some.injEq, exists_eq_left']
      exact released_cell ..
  have was : ∀ {h sl c}, c ≠ .quiet → (releasePrimary t x s).cell h sl = c → s.cell h sl = c := by
    intro h sl c ne k
    by_cases q : ∃ p, (s.resv x).primary = some p ∧ Quietens x s p h sl
    · rw [(primary h sl).1 q] at k
      exact absurd k.symm ne
    · rw [← (primary h sl).2 q, k]
  have quiet : ∀ q, Quietens x (releasePrimary t x s) q h sl → Quietens x s q h sl := by
    rintro q ⟨⟨slot, r, crane⟩, rfl, near⟩
    refine ⟨⟨target.2 _ ▸ slot, r, was (by simp) crane⟩, rfl, near.imp id fun k => ⟨k.1, was (by simp) k.2⟩⟩
  have quiet' : ∀ q, Quietens x s q h sl → (¬ ∃ p, (s.resv x).primary = some p ∧ Quietens x s p h sl) →
      Quietens x (releasePrimary t x s) q h sl := by
    rintro q ⟨⟨slot, r, crane⟩, rfl, near⟩ no
    have stood : ¬ ∃ p, (s.resv x).primary = some p ∧ Quietens x s p q.head q.slot := by
      rintro ⟨p, held, ⟨⟨slot', r', crane'⟩, same, head | ⟨-, k⟩⟩⟩
      · exact no ⟨p, held, ⟨slot', r', crane'⟩, same, by rw [← head]; exact near⟩
      · rw [crane] at k
        cases k
    exact ⟨⟨(target.2 _).symm ▸ slot, r, by rw [(primary _ _).2 stood, crane]⟩, rfl,
      near.imp id fun k => ⟨k.1, by rw [(primary _ _).2 no, k.2]⟩⟩
  have both : Released s x h sl ↔ (∃ p, (s.resv x).primary = some p ∧ Quietens x s p h sl) ∨
      ∃ q, (s.resv x).target = some q ∧ Quietens x s q h sl := by
    rw [released_iff]
    grind
  rw [both, releaseAll, releaseTarget_eq, target.1]
  dsimp only
  split
  · rename_i k
    simp only [k, reduceCtorEq, false_and, exists_false, or_false]
    exact primary h sl
  · rename_i q k
    simp only [k, Option.some.injEq, exists_eq_left']
    have cell := released_cell t x (releasePrimary t x s) q { primary := none, target := none } h sl
    by_cases now : Quietens x (releasePrimary t x s) q h sl
    · exact ⟨fun _ => cell.1 now, fun no => absurd (.inr (quiet q now)) no⟩
    · refine ⟨fun k => (cell.2 now).trans ?_, fun no => (cell.2 now).trans ((primary h sl).2 fun k => no (.inl k))⟩
      by_cases q' : ∃ p, (s.resv x).primary = some p ∧ Quietens x s p h sl
      · exact (primary h sl).1 q'
      · exact absurd (quiet' q (k.resolve_left q') q') now

/-! ## The close of a link (R72) -/

/-- The record and the exchange states of link `x` cleared, its list back in the pool (R72). -/
def clearLink (u : State) : State :=
  { u with cle := { u.cle with links := put u.cle.links x (closedRecord (u.link x))
                               poolFree := u.cle.poolFree + (u.link x).list.length
                               exch := put u.cle.exch x Exchange.empty, prevExch := put u.cle.prevExch x Exchange.empty } }

theorem closeLink_eq : closeLink t x s = recomputeStop t x (clearLink x (releaseAll t x (s.setRecord x none))) := by
  unfold closeLink
  generalize releaseAll t x (s.setRecord x none) = u
  rfl

end

end Sys2Proof.Machine
end

section
/-! CRANE OPEN, CRANE CLOSE and CRANE RECOVER (R69, R70, R72, R105). -/

namespace Sys2Proof.Machine

/-! ## Reading tables that were kept -/

theorem resv_congr {s u : State} (h : u.fs = s.fs) (x : LinkNo) : u.resv x = s.resv x := by
  unfold State.resv
  rw [h]

theorem record_congr {s u : State} (h : u.cov = s.cov) (x : LinkNo) : u.record x = s.record x := by
  unfold State.record
  rw [h]

theorem link_of_put {s u : State} {x : LinkNo} {l : Link} (h : u.cle.links = put s.cle.links x l) (y : LinkNo) :
    u.link y = if x = y then l else s.link y := by
  unfold State.link
  rw [h]
  exact get_put ..

/-! ## CRANE OPEN -/

theorem terminalInUse_iff {s : State} {x : LinkNo} {terminal : Word32} : terminalInUse s x terminal = true ↔
    ∃ y, y ≠ x ∧ (s.link y).mode ≠ .closed ∧ (s.link y).terminal = terminal := by
  simp [terminalInUse, and_assoc]

section
variable {link head : Byte} {x : LinkNo} {h : HeadNo} (hx : linkNo link = some x) (hh : headNo head = some h)
  {terminal : Word32} {period slot : Byte} {interlock : Word16} {lowMark : Byte} {s : State}
include hx hh

theorem doCraneOpen_open (k : (s.link x).mode ≠ .closed) :
    doCraneOpen link terminal head period slot interlock lowMark s = (s, .state .linkOpen) := by
  simp only [doCraneOpen, hx, hh, if_pos k]

variable (closed : (s.link x).mode = .closed)
include closed

theorem doCraneOpen_inUse (k : terminalInUse s x terminal = true) :
    doCraneOpen link terminal head period slot interlock lowMark s = (s, .state .terminalInUse) := by
  simp [doCraneOpen, hx, hh, closed, k]

variable (unused : ¬ terminalInUse s x terminal = true)
include unused

theorem doCraneOpen_headState (k : (s.head h).state ≠ .on) :
    doCraneOpen link terminal head period slot interlock lowMark s = (s, .state .headState) := by
  simp [doCraneOpen, hx, hh, closed, unused, k]

variable (on : (s.head h).state = .on)
include on

theorem doCraneOpen_noSlot (k : admissionSearch s x h (readPeriod period) (readPreferred slot) = none) :
    doCraneOpen link terminal head period slot interlock lowMark s = (s, .noSlot) := by
  simp [doCraneOpen, hx, hh, closed, unused, on, k]

theorem doCraneOpen_found {p : Place} (k : admissionSearch s x h (readPeriod period) (readPreferred slot) = some p) :
    doCraneOpen link terminal head period slot interlock lowMark s =
      (openLink x terminal p interlock (clamp 0 63 lowMark.toNat) s, .ok (.craneOpen p (clamp 0 63 lowMark.toNat)
        (firstDue p s.now).1 (firstDue p s.now).2 s.now)) := by
  simp [doCraneOpen, hx, hh, closed, unused, on, k]

end

theorem doCraneOpen_range {link head : Byte} (out : 24 ≤ link.toNat ∨ 12 ≤ head.toNat) (terminal : Word32)
    (period slot : Byte) (interlock : Word16) (lowMark : Byte) (s : State) :
    doCraneOpen link terminal head period slot interlock lowMark s = (s, .range) := by
  unfold doCraneOpen
  split
  · rename_i hx hh
    rcases out with out | out
    · rw [linkNo_none out] at hx; cases hx
    · rw [headNo_none out] at hh; cases hh
  · rfl

/-- An open link, before CRANE is raised for a kept health (R70). -/
def openedState (x : LinkNo) (terminal : Word32) (p : Place) (interlock : Word16) (lowMark : Nat) (s : State) : State :=
  ((((s.setResv x ⟨some p, none⟩).setLink x (openedRecord (s.link x) s.now terminal p interlock lowMark)).setRecord x
    (some (Handover.atOpen p.head))).setExch x { Exchange.empty with opened := true }).setPrevExch x Exchange.empty

theorem openLink_raised (x : LinkNo) (terminal : Word32) (p : Place) (interlock : Word16) (lowMark : Nat) (s : State) :
    openLink x terminal p interlock lowMark s =
      if (s.link x).health = .good then openedState x terminal p interlock lowMark s
      else raiseCrane s.now x (openedState x terminal p interlock lowMark s) := rfl

theorem openLink_eq (x : LinkNo) (terminal : Word32) (p : Place) (interlock : Word16) (lowMark : Nat) (s : State) :
    openLink x terminal p interlock lowMark s = { openedState x terminal p interlock lowMark s with
      cp := (openLink x terminal p interlock lowMark s).cp } := by
  rw [openLink_raised]
  split
  · rfl
  · exact raiseCrane_port ..

theorem openLink_replies (x : LinkNo) (terminal : Word32) (p : Place) (interlock : Word16) (lowMark : Nat) (s : State) :
    (openLink x terminal p interlock lowMark s).cp.replies = s.cp.replies := by
  rw [openLink_raised]
  split
  · rfl
  · exact (onlyRaises_raiseCrane ..).replies

/-- Every link but one keeps record, reservations and handover record where only that one's are written. -/
theorem othersKept_writes (x : LinkNo) (l : Link) (r : Held) (w : Option Handover) {s t : State}
    (link : t.cle.links = put s.cle.links x l) (resv : t.fs.resv = put s.fs.resv x r)
    (record : t.cov.records = put s.cov.records x w) : OthersKept x s t := by
  intro y ne
  unfold State.link State.resv State.record
  rw [link, resv, record]
  exact ⟨get_put_other _ _ (Ne.symm ne), get_put_other _ _ (Ne.symm ne), get_put_other _ _ (Ne.symm ne)⟩

/-! ## CRANE CLOSE -/

theorem doCraneClose_open {link : Byte} {x : LinkNo} {s : State} (hx : linkNo link = some x)
    (k : (s.link x).mode ≠ .closed) : doCraneClose link s =
      (closeLink s.now x s, .ok (.craneClose (s.link x).list.length (closeResult (s.link x)) s.now)) := by
  simp [doCraneClose, hx, k]

section
variable (t : Time) (x : LinkNo) (s : State)

theorem closeLink_links : (closeLink t x s).cle.links = put s.cle.links x (closedRecord (s.link x)) := by
  rw [closeLink_eq, recomputeStop_frame]
  unfold clearLink State.link
  dsimp only
  rw [releaseAll_cle]
  rfl

theorem closeLink_link (y : LinkNo) : (closeLink t x s).link y = if x = y then closedRecord (s.link x) else s.link y := by
  unfold State.link
  rw [closeLink_links]
  exact get_put ..

theorem closeLink_fs : (closeLink t x s).fs = (releaseAll t x (s.setRecord x none)).fs := by
  rw [closeLink_eq, recomputeStop_frame]
  rfl

theorem closeLink_resv (y : LinkNo) : (closeLink t x s).resv y = if x = y then ⟨none, none⟩ else s.resv y := by
  unfold State.resv
  rw [closeLink_fs]
  exact releaseAll_resv t x (s.setRecord x none) y

theorem closeLink_record : (closeLink t x s).record x = none := by
  unfold State.record
  rw [closeLink_eq, recomputeStop_frame]
  exact releaseAll_record_none t x _ (by simp)

theorem closeLink_cell (h : HeadNo) (sl : SlotNo) : (Released s x h sl → (closeLink t x s).cell h sl = .quiet) ∧
    (¬ Released s x h sl → (closeLink t x s).cell h sl = s.cell h sl) := by
  unfold State.cell
  rw [closeLink_fs]
  exact releaseAll_cell t x (s.setRecord x none) h sl

theorem closeLink_poolFree : (closeLink t x s).cle.poolFree = s.cle.poolFree + (s.link x).list.length := by
  rw [closeLink_eq, recomputeStop_frame]
  unfold clearLink State.link
  dsimp only
  rw [releaseAll_cle]
  rfl

theorem closeLink_contributions :
    (closeLink t x s).cle.contributions = withMember s.cle.contributions x.1 false := by
  rw [closeLink_eq, recomputeStop_frame]
  have closed : contributes (clearLink x (releaseAll t x (s.setRecord x none))) x = false := by
    simp [contributes, clearLink, State.link, closedRecord]
  rw [closed]
  unfold clearLink
  dsimp only
  rw [releaseAll_cle]
  rfl

end

/-- The test result that a close stores (R72 step 1). -/
theorem closeResult_test {l : Link} {p : TestProgress} (mode : l.mode = .test) (test : l.test = some p) :
    closeResult l = some ⟨p.done, p.bitErrors, true⟩ := by
  simp [closeResult, mode, test, abortedResult]

theorem closeResult_other {l : Link} (mode : l.mode ≠ .test) : closeResult l = none := by
  unfold closeResult
  split
  · exact absurd ‹_› mode
  · rfl

theorem closedRecord_eq (l : Link) : closedRecord l =
    { l with mode := .closed, list := [], held := none, latest := none, farEnd := false, test := none,
             testResult := if closeResult l = none then l.testResult else closeResult l } := by
  unfold closedRecord
  cases closeResult l <;> rfl

/-! ## CRANE RECOVER -/

theorem setHealth_frame (t : Time) (x : LinkNo) (h : Health) {s : State} (ne : (s.link x).health ≠ h) :
    ∃ c q d, setHealth t x h s = { s with
      cle := { s.cle with links := put s.cle.links x { s.link x with health := h }, contributions := c, qstop := q }
      cp := d } := by
  unfold setHealth
  rw [if_neg ne, recomputeStop_frame, raiseCrane_port]
  exact ⟨_, _, _, rfl⟩

/-- A change of health is seen as CRANE of its link (R101). -/
theorem craneSeen_setHealth (t : Time) (x : LinkNo) (h : Health) {s : State} (ne : (s.link x).health ≠ h) :
    CraneSeen (setHealth t x h s) x := by
  unfold setHealth
  rw [if_neg ne]
  have seen := craneSeen_raiseCrane t x (updateLink x (fun l => { l with health := h }) s)
  generalize raiseCrane t x _ = u at seen ⊢
  have kept : ∀ f, flagSet u f = true → flagSet (recomputeStop t x u) f = true :=
    (handling_recomputeStop (fun _ => True) t x u).port.flags
  refine ⟨kept _ seen.1, ?_⟩
  unfold recomputeStop
  dsimp only
  split
  · exact seen.2
  · rw [raisePlain, raise_cp]
    exact seen.2

/-- R105: the recovery that a LOST link begins: health and recovery count, CRANE raised, the rest of the links kept. -/
theorem startRecovery_spec {x : LinkNo} {s : State} (lost : (s.link x).health = .lost) :
    (startRecovery x s).cle.links = put s.cle.links x { s.link x with health := .recovering, recovery := 0 } ∧
      (startRecovery x s).fs = s.fs ∧ (startRecovery x s).cov = s.cov ∧ CraneSeen (startRecovery x s) x ∧
      (startRecovery x s).cp.replies = s.cp.replies := by
  have link : (updateLink x (fun l => { l with recovery := 0 }) s).link x = { s.link x with recovery := 0 } := by
    simp [updateLink]
  have ne : ((updateLink x (fun l => { l with recovery := 0 }) s).link x).health ≠ .recovering := by
    rw [link]
    simp [lost]
  obtain ⟨c, q, d, e⟩ := setHealth_frame s.now x .recovering ne
  have replies := (handling_setHealth (fun _ => True) s.now x
    (updateLink x (fun l => { l with recovery := 0 }) s) .recovering).port.replies
  refine ⟨?_, ?_, ?_, craneSeen_setHealth s.now x .recovering ne, replies⟩
  · unfold startRecovery
    rw [e, link]
    apply Vector.ext
    intro i hi
    by_cases k : x.1 = i <;> simp [updateLink, State.setLink, put, k]
  · unfold startRecovery
    rw [e]
    rfl
  · unfold startRecovery
    rw [e]
    rfl

section
variable {link head : Byte} {x : LinkNo} (hx : linkNo link = some x) {s : State}
include hx

theorem doCraneRecover_range (named : head ≠ 255#8) (out : 12 ≤ head.toNat) : doCraneRecover link head s = (s, .range) := by
  simp [doCraneRecover, hx, named, headNo_none out]

variable (named : ¬ (head ≠ 255#8 ∧ (headNo head).isNone = true))
include named

theorem doCraneRecover_closed (k : (s.link x).mode = .closed) : doCraneRecover link head s = (s, .state .linkClosed) := by
  rw [doCraneRecover, hx]
  dsimp only
  rw [if_neg named, if_pos k]

variable (opened : ¬ (s.link x).mode = .closed)
include opened

theorem doCraneRecover_health (k : (s.link x).health ≠ .lost) : doCraneRecover link head s = (s, .state .health) := by
  rw [doCraneRecover, hx]
  dsimp only
  rw [if_neg named, if_neg opened, if_pos k]

variable (lost : (s.link x).health = .lost)
include lost

theorem doCraneRecover_placed (k : unplaced s x = false) : doCraneRecover link head s = recovered x s := by
  rw [doCraneRecover, hx]
  dsimp only
  rw [if_neg named, if_neg opened, if_neg (not_not.mpr lost), if_neg (by simp [k])]

variable (un : unplaced s x = true)
include un

/-- A LOST link without a place is placed first (R105). -/
theorem doCraneRecover_unplaced : doCraneRecover link head s = match headNo head with
    | none => (s, .state .headRequired)
    | some h =>
      if (s.head h).state ≠ .on then (s, .state .headState)
      else
        match admissionSearch s x h (s.link x).period 1 with
        | none => (s, .noSlot)
        | some p => recovered x (placeLink x p s) := by
  rw [doCraneRecover, hx]
  dsimp only
  rw [if_neg named, if_neg opened, if_neg (not_not.mpr lost), if_pos un] <;> rfl

theorem doCraneRecover_headRequired (k : headNo head = none) : doCraneRecover link head s = (s, .state .headRequired) := by
  rw [doCraneRecover_unplaced hx named opened lost un, k]

variable {h : HeadNo} (hh : headNo head = some h)
include hh

theorem doCraneRecover_headState (k : (s.head h).state ≠ .on) : doCraneRecover link head s = (s, .state .headState) := by
  rw [doCraneRecover_unplaced hx named opened lost un, hh]
  exact if_pos k

variable (on : (s.head h).state = .on)
include on

theorem doCraneRecover_noSlot (k : admissionSearch s x h (s.link x).period 1 = none) :
    doCraneRecover link head s = (s, .noSlot) := by
  rw [doCraneRecover_unplaced hx named opened lost un, hh]
  dsimp only
  rw [if_neg (not_not.mpr on), k]

theorem doCraneRecover_found {p : Place} (k : admissionSearch s x h (s.link x).period 1 = some p) :
    doCraneRecover link head s = recovered x (placeLink x p s) := by
  rw [doCraneRecover_unplaced hx named opened lost un, hh]
  dsimp only
  rw [if_neg (not_not.mpr on), k]

end

/-! ## The placing of a link (R105) -/

theorem placeLink_resv (x : LinkNo) (p : Place) (s : State) :
    (placeLink x p s).resv x = { s.resv x with primary := some p } := get_put_same ..

theorem placeLink_record (x : LinkNo) (p : Place) (s : State) : (placeLink x p s).record x =
    (s.record x).map fun w => { w.emptyWindow with centre := some p.head } := get_put_same ..

theorem placeLink_others (x : LinkNo) (p : Place) (s : State) : OthersKept x s (placeLink x p s) ∧
    (placeLink x p s).link x = { s.link x with phase := p.phase } :=
  ⟨othersKept_writes x _ _ _ rfl rfl rfl, get_put_same ..⟩

theorem placeLink_health {x : LinkNo} {p : Place} {s : State} (lost : (s.link x).health = .lost) :
    ((placeLink x p s).link x).health = .lost := by
  rw [(placeLink_others x p s).2]
  exact lost

theorem unplaced_iff {s : State} {x : LinkNo} :
    unplaced s x = true ↔ (s.link x).mode ≠ .closed ∧ s.resv x = ⟨none, none⟩ := by
  unfold unplaced
  cases s.resv x with
  | mk p q => simp [and_assoc]

end Sys2Proof.Machine

open Sys2Proof Sys2Proof.Machine

/-- Settles O42: the refusals in the order of R69, the admission search, and the first due frame. -/
theorem craneOpenIsAnswered : Obligations.CraneOpenIsAnswered := by
  intro tag link terminal head period slot interlock lowMark s ready i
  have refused : ∀ {r}, (∀ u : State, u = s ∨ (∃ m, u = queueReply m s) →
      doCraneOpen link terminal head period slot interlock lowMark u = (u, r)) → Answers i 0x30#8 tag r id s := by
    intro r k
    exact answers_of ready (c := .craneOpen link terminal head period slot interlock lowMark) rfl nofun nofun
      (by rw [carryOut, k s (.inl rfl)]) (by rw [carryOut, k _ (.inr ⟨_, rfl⟩), id])
  refine ⟨fun out => refused fun u _ => doCraneOpen_range out .., fun x h ex eh => ?_⟩
  have hx := linkNo_eq ex
  have hh := headNo_eq eh
  refine ⟨fun k => refused ?_, fun closed used => refused ?_, fun closed unused => ⟨fun off => refused ?_,
    fun on none => refused ?_, fun p on first => ?_⟩⟩
  · rintro u (rfl | ⟨m, rfl⟩) <;> exact doCraneOpen_open hx hh k
  · have inUse := terminalInUse_iff.mpr used
    rintro u (rfl | ⟨m, rfl⟩) <;> exact doCraneOpen_inUse hx hh closed inUse
  all_goals
    have free : ¬ terminalInUse s x terminal = true := by
      rw [terminalInUse_iff]
      rintro ⟨y, ne, held, eq⟩
      exact unused y ne held eq
  · rintro u (rfl | ⟨m, rfl⟩) <;> exact doCraneOpen_headState hx hh closed free off
  · have search := admissionSearch_of_none (readPreferred_ne slot) none
    rintro u (rfl | ⟨m, rfl⟩) <;> exact doCraneOpen_noSlot hx hh closed free on search
  · have search := admissionSearch_of_first (readPreferred_ne slot) first
    have next := exec_answered ready tag (c := .craneOpen link terminal head period slot interlock lowMark) rfl nofun nofun
    rw [carryOut, carryOut, doCraneOpen_found hx hh closed free on search] at next
    rw [doCraneOpen_found (s := queueReply _ s) hx hh closed free on search] at next
    have low : clamp 0 63 lowMark.toNat = min 63 lowMark.toNat := by simp [clamp]
    rw [low] at next
    obtain ⟨phead, pper, -, phase, -, -⟩ := first
    obtain ⟨one, within, dueThen, firstly⟩ := framesToDue_spec (p := p) (pper.symm ▸ phase) s.fs.now.frame
    refine ⟨_, next, ⟨framesToDue p s.fs.now.frame, _, _, ?_, one, within, frame_add .., dueThen, ?_, rfl⟩, ?_, ?_, ?_,
      ?_, ?_, ?_, ?_, ?_, ?_⟩
    · rw [openLink_replies]
      exact List.mem_append_right _ (List.mem_singleton.mpr rfl)
    · intro k g one lt eq
      have : g = s.fs.now.frame + Fin.ofNat 16 k := Fin.ext (by rw [frame_add, eq])
      rw [this]
      exact firstly k one lt
    · rw [openLink_eq]
      exact get_put_same ..
    · rw [openLink_eq]
      exact get_put_same ..
    · rw [openLink_eq, ← phead]
      exact get_put_same ..
    · rw [openLink_eq]
      exact othersKept_writes x _ _ _ rfl rfl rfl
    all_goals
      rw [openLink_eq]
      rfl

/-- R72: what the close of a link leaves, taken after a reply has been queued. -/
theorem Sys2Proof.Machine.closeLink_replied (t : Time) (x : LinkNo) (m : Message) (s : State) (u : State)
    (hu : u = closeLink t x (queueReply m s)) :
    m ∈ u.cp.replies ∧ u.link x = closedRecord (s.link x) ∧ u.resv x = ⟨none, none⟩ ∧ u.record x = none ∧
      (∀ h sl, (Released s x h sl → u.cell h sl = .quiet) ∧ (¬ Released s x h sl → u.cell h sl = s.cell h sl)) ∧
      u.cle.poolFree = s.cle.poolFree + (s.link x).list.length ∧ u.cle.contributions.getLsbD x.1 = false ∧
      (∀ y, y ≠ x → u.link y = s.link y ∧ u.resv y = s.resv y) ∧ u.rep = s.rep := by
  subst hu
  refine ⟨?_, ?_, ?_, closeLink_record t x (queueReply m s), closeLink_cell t x (queueReply m s),
    closeLink_poolFree t x (queueReply m s), ?_, fun y ne => ⟨?_, ?_⟩,
    (handling_closeLink (fun _ => True) t x (queueReply m s)).rep⟩
  · exact (handling_closeLink (fun _ => True) t x _).port.replied
  · rw [closeLink_link, if_pos rfl]
    rfl
  · rw [closeLink_resv, if_pos rfl]
  · rw [closeLink_contributions, getLsbD_withMember _ _ _ _ x.2, if_pos rfl]
  · rw [closeLink_link, if_neg (Ne.symm ne)]
    rfl
  · rw [closeLink_resv, if_neg (Ne.symm ne)]
    rfl

/-- Settles O43. -/
theorem craneCloseIsAnswered : Obligations.CraneCloseIsAnswered := by
  intro tag link s ready
  refine ⟨fun out => ?_, fun x ex => ⟨fun closed => ?_, fun opened => ?_⟩⟩
  · exact answers_of ready (c := .craneClose link) rfl nofun nofun (by simp [carryOut, doCraneClose, linkNo_none out])
      (by simp [carryOut, doCraneClose, linkNo_none out])
  · have same : ∀ m, ((queueReply m s).link x).mode = .closed := fun _ => closed
    exact answers_of ready (c := .craneClose link) rfl nofun nofun
      (by simp only [carryOut, doCraneClose, linkNo_eq ex, if_pos closed]; rfl)
      (by simp only [carryOut, doCraneClose, linkNo_eq ex, if_pos (same _), id])
  · have next : exec (.craneClose tag link) s = .next (closeLink s.now x (queueReply
        (.reply 0x31#8 tag (.ok (.craneClose (s.link x).list.length (closeResult (s.link x)) s.fs.now))) s)) := by
      have := exec_answered ready tag (c := .craneClose link) rfl nofun nofun
      rw [carryOut, carryOut, doCraneClose_open (linkNo_eq ex) opened] at this
      rw [doCraneClose_open (s := queueReply _ s) (linkNo_eq ex) opened] at this
      exact this
    obtain ⟨reply, own, rest⟩ := closeLink_replied _ x _ s _ rfl
    refine ⟨_, closeResult (s.link x), next, fun p => closeResult_test, closeResult_other, reply, ?_, rest⟩
    rw [own]
    exact closedRecord_eq (s.link x)

/-- Settles O47: the refusals in the order of R105, and `startRecovery_spec` with the placing. -/
theorem craneRecoverIsAnswered : Obligations.CraneRecoverIsAnswered := by
  intro tag link head s ready i
  have refused : ∀ {r}, (∀ u : State, u = s ∨ (∃ m, u = queueReply m s) → doCraneRecover link head u = (u, r)) →
      Answers i 0x39#8 tag r id s := by
    intro r k
    exact answers_of ready (c := .craneRecover link head) rfl nofun nofun
      (by rw [carryOut, k s (.inl rfl)]) (by rw [carryOut, k _ (.inr ⟨_, rfl⟩), id])
  refine ⟨fun out => refused fun u _ => by simp [doCraneRecover, linkNo_none out], fun x ex => ?_⟩
  have hx := linkNo_eq ex
  refine ⟨fun ne out => refused fun u _ => doCraneRecover_range hx ne out, fun inRange => ?_⟩
  have named : ¬ (head ≠ 255#8 ∧ (headNo head).isNone = true) := by
    rw [headNo_isNone]
    rintro ⟨ne, out⟩
    rcases inRange with eq | lt
    · exact ne eq
    · omega
  have next := exec_answered ready tag (c := .craneRecover link head) rfl nofun nofun
  rw [carryOut, carryOut] at next
  refine ⟨fun closed => refused ?_, fun opened health => refused ?_, fun opened lost placed => ?_,
    fun opened lost un => ⟨fun bare => refused ?_, fun h eh => ⟨fun off => refused ?_, fun on bare => refused ?_,
      fun p on first => ?_⟩⟩⟩
  · rintro u (rfl | ⟨m, rfl⟩) <;> exact doCraneRecover_closed hx named closed
  · rintro u (rfl | ⟨m, rfl⟩) <;> exact doCraneRecover_health hx named opened health
  · obtain ⟨links, fs, -, -, -⟩ := startRecovery_spec (s := s) lost
    have health : ((startRecovery x s).link x).health = .recovering := by rw [link_of_put links, if_pos rfl]
    have time : (startRecovery x s).now = s.fs.now := congrArg FrameScheduler.now fs
    rw [doCraneRecover_placed hx named opened lost placed] at next
    rw [doCraneRecover_placed (s := queueReply _ s) hx named opened lost placed] at next
    dsimp only [recovered] at next
    rw [health, resv_congr fs, time] at next
    obtain ⟨links, fs, cov, seen, replies⟩ := startRecovery_spec (s := queueReply _ s) lost
    refine ⟨_, next, ?_, ?_, resv_congr fs x, record_congr cov x, seen, fun y ne => ⟨?_, resv_congr fs y, record_congr cov y⟩⟩
    · rw [replies]
      exact List.mem_append_right _ (List.mem_singleton.mpr rfl)
    · rw [link_of_put links, if_pos rfl]
      rfl
    · rw [link_of_put links, if_neg (Ne.symm ne)]
      rfl
  · have unnamed : headNo head = none := by rw [bare]; decide
    rintro u (rfl | ⟨m, rfl⟩) <;> exact doCraneRecover_headRequired hx named opened lost un unnamed
  · rintro u (rfl | ⟨m, rfl⟩) <;> exact doCraneRecover_headState hx named opened lost un (headNo_eq eh) off
  · have search := admissionSearch_of_none (preferred := 1) (by decide) bare
    rintro u (rfl | ⟨m, rfl⟩) <;> exact doCraneRecover_noSlot hx named opened lost un (headNo_eq eh) on search
  · have search := admissionSearch_of_first (by decide) first
    obtain ⟨links, fs, -, -, -⟩ := startRecovery_spec (placeLink_health (p := p) lost)
    have health : ((startRecovery x (placeLink x p s)).link x).health = .recovering := by rw [link_of_put links, if_pos rfl]
    have held : ∀ u, u.fs = s.fs → (placeLink x p u).resv x = ⟨some p, none⟩ := by
      intro u eq
      rw [placeLink_resv, resv_congr eq, (unplaced_iff.mp un).2]
    have time : (startRecovery x (placeLink x p s)).now = s.fs.now := (congrArg FrameScheduler.now fs).trans rfl
    rw [doCraneRecover_found hx named opened lost un (headNo_eq eh) on search] at next
    rw [doCraneRecover_found (s := queueReply _ s) hx named opened lost un (headNo_eq eh) on search] at next
    dsimp only [recovered] at next
    rw [health, resv_congr fs, held s rfl, time] at next
    obtain ⟨links, fs, cov, seen, replies⟩ := startRecovery_spec (placeLink_health (p := p) (s := queueReply _ s) lost)
    obtain ⟨others, own⟩ := placeLink_others x p (queueReply _ s)
    refine ⟨_, next, ?_, ?_, ?_, seen, fun y ne => ?_, ?_⟩
    · rw [replies]
      exact List.mem_append_right _ (List.mem_singleton.mpr rfl)
    · rw [link_of_put links, if_pos rfl, own]
      rfl
    · rw [resv_congr fs]
      exact held _ rfl
    · rw [link_of_put links, if_neg (Ne.symm ne), resv_congr fs, record_congr cov]
      exact others y ne
    · rw [record_congr cov, ← first.1]
      exact placeLink_record x p (queueReply _ s)
end

section
/-! SUPPORT. Validation of the staged plan: what its searches find (R11), and what a boundary leaves of it (R12). -/

namespace Sys2Proof.Machine

/-- An element that a search finds in an ordered list comes before every other that it could find. -/
theorem find?_first {α : Type} {p : α → Bool} {R : α → α → Prop} {l : List α} (ordered : l.Pairwise R) {a : α}
    (found : l.find? p = some a) {b : α} (mem : b ∈ l) (holds : p b = true) : a = b ∨ R a b := by
  obtain ⟨-, before, after, rfl, fails⟩ := List.find?_eq_some_iff_append.mp found
  rcases List.mem_append.mp mem with early | late
  · simp only [Bool.not_eq_eq_eq_not, Bool.not_true] at fails
    exact absurd holds (Bool.eq_false_iff.mp (fails b early))
  · rcases List.mem_cons.mp late with eq | late
    · exact .inl eq.symm
    · exact .inr (List.rel_of_pairwise_cons (List.pairwise_append.mp ordered).2.1 late)

/-! ## Group spacing (R11) -/

/-- Heads `a` and `b` fail the group spacing. -/
def TooClose (p : Plan) (a b : HeadNo) : Prop :=
  a < b ∧ p.headGroup.get a = p.headGroup.get b ∧ b.1 < a.1 + 3

theorem spacingFails_iff {p : Plan} {a b : HeadNo} : spacingFails p a b = true ↔ TooClose p a b := by
  simp [spacingFails, TooClose, and_assoc]

theorem mem_headPairs (ab : HeadNo × HeadNo) : ab ∈ headPairs := by
  simp [headPairs]

/-- The pairs of heads stand in the order of the check. -/
theorem headPairs_ordered : headPairs.Pairwise fun x y => x.1 < y.1 ∨ x.1 = y.1 ∧ x.2 < y.2 := by
  rw [headPairs, List.pairwise_flatMap]
  refine ⟨fun a _ => ?_, (List.pairwise_lt_finRange 12).imp fun lt => ?_⟩
  · rw [List.pairwise_map]
    exact (List.pairwise_lt_finRange 12).imp fun lt => .inr ⟨rfl, lt⟩
  · intro x hx y hy
    obtain ⟨_, -, rfl⟩ := List.mem_map.mp hx
    obtain ⟨_, -, rfl⟩ := List.mem_map.mp hy
    exact .inl lt

theorem spacingFault_none {p : Plan} : spacingFault p = none ↔ ∀ a b, ¬ TooClose p a b := by
  rw [spacingFault, List.find?_eq_none]
  refine ⟨fun h a b close => h (a, b) (mem_headPairs _) (spacingFails_iff.mpr close), fun h ab _ fails => ?_⟩
  exact h ab.1 ab.2 (spacingFails_iff.mp fails)

/-- The pair found fails the check, and is the first that does. -/
theorem spacingFault_some {p : Plan} {a b : HeadNo} (found : spacingFault p = some (a, b)) :
    TooClose p a b ∧ ∀ c d, TooClose p c d → a < c ∨ a = c ∧ b ≤ d := by
  rw [spacingFault] at found
  refine ⟨spacingFails_iff.mp (List.find?_some found :), fun c d close => ?_⟩
  rcases find?_first headPairs_ordered found (mem_headPairs (c, d)) (spacingFails_iff.mpr close) with eq | lt | ⟨eq, lt⟩
  · injection eq with eq eq'
    exact .inr ⟨eq, eq'.le⟩
  · exact .inl lt
  · exact .inr ⟨eq, lt.le⟩

/-! ## The reservations (R11) -/

/-- The reservation table stands by link number (R62). -/
theorem table_ordered (s : State) : (table s).Pairwise fun r q => r.link ≤ q.link := by
  have link : ∀ x, ∀ r ∈ linkReservations s x, r.link = x := by
    intro x r mem
    simp only [linkReservations, List.mem_append, List.mem_map] at mem
    rcases mem with ⟨_, -, rfl⟩ | ⟨_, -, rfl⟩ <;> rfl
  rw [table, List.pairwise_flatMap]
  refine ⟨fun x _ => ?_, (List.pairwise_lt_finRange 24).imp fun lt r hr q hq => ?_⟩
  · exact List.Pairwise.imp_of_mem (R := fun _ _ => True) (fun hr hq _ => ((link x _ hr).trans (link x _ hq).symm).le)
      (List.pairwise_of_forall fun _ _ => trivial)
  · rw [link _ r hr, link _ q hq]
    exact lt.le

theorem outsideAllowed_iff {p : Plan} {r : Reservation} :
    outsideAllowed p r = true ↔ (p.allowed.get r.place.head).getLsbD r.place.slot.1 = false := by
  simp [outsideAllowed]

theorem reservationFault_none {s : State} {p : Plan} : reservationFault s p = none ↔
    ∀ r ∈ table s, (p.allowed.get r.place.head).getLsbD r.place.slot.1 = true := by
  simp [reservationFault, outsideAllowed]

/-- The link found holds a failing reservation, and no link of a lower number does. -/
theorem reservationFault_some {s : State} {p : Plan} {x : LinkNo} (found : reservationFault s p = some x) :
    ∃ q ∈ table s, q.link = x ∧ (p.allowed.get q.place.head).getLsbD q.place.slot.1 = false ∧
      ∀ r ∈ table s, (p.allowed.get r.place.head).getLsbD r.place.slot.1 = false → q.link ≤ r.link := by
  obtain ⟨q, first, eq⟩ := Option.map_eq_some_iff.mp found
  refine ⟨q, List.mem_of_find?_eq_some first, eq, outsideAllowed_iff.mp (List.find?_some first), fun r mem out => ?_⟩
  rcases find?_first (table_ordered s) first mem (outsideAllowed_iff.mpr out) with rfl | le
  · exact le_rfl
  · exact le

/-! ## A multiframe boundary (R12) -/

theorem atBoundary_iff {s : State} : atBoundary s = true ↔ s.fs.airStarted = true ∧ s.fs.now.frame = 15 := by
  simp [atBoundary, State.now, Fin.ext_iff]

/-- R1, R31, R86: what every frame start begins with. -/
def frameTaken (s : State) : State := shiftExchanges (takeRestores (advanceFrame s))

theorem nextFrame_boundary {s : State} (h : atBoundary s = true) : nextFrame s = ⟨s.fs.now.mf + 1#16, 0, 0⟩ := by
  obtain ⟨started, last⟩ := atBoundary_iff.mp h
  simp [nextFrame, State.now, started, last]

/-- The Frame Scheduler's plans at a boundary are those the validation leaves, and what the Control Port shows of them
stands (R12). -/
theorem startFrame_dealt {s : State} (h : atBoundary s = true) :
    (startFrame s).fs = { (dealWithPlan (frameTaken s)).fs with
      map := (startFrame s).fs.map, beacon := (startFrame s).fs.beacon } ∧
    OnlyRaises (dealWithPlan (frameTaken s)) (startFrame s) := by
  have fs : (frameOpened s).fs = (dealWithPlan (frameTaken s)).fs := by
    rw [frameOpened_boundary h, openMultiframe_frame]
    rfl
  have cp : (frameOpened s).cp = (dealWithPlan (frameTaken s)).cp := by
    rw [frameOpened_boundary h, openMultiframe_frame]
    rfl
  constructor
  · rw [← fs]
    conv_lhs => rw [startFrame_fs]
    rw [startFrame_fs]
  · refine .trans (u := assembleBeacon (replaceMap (frameOpened s))) (.of_cp ?_) (startFrame_aged s).port
    exact cp

theorem frameStart_next {s t : State} (h : s.resetn = true) : exec .frameStart s = .next t ↔ startFrame s = t := by
  rw [show exec .frameStart s = .next (startFrame s) from whileRunning_running h]
  exact ⟨fun e => by injection e, fun e => by rw [e]⟩

/-- R12: a committed plan is dealt with, and PLAN shows how. -/
theorem dealWithPlan_spec {s : State} (ready : s.fs.ready = true) :
    (dealWithPlan s).fs = { s.fs with active := planAfter (validatePlan s s.now.mf) s
                                      staged := planAfter (validatePlan s s.now.mf) s, ready := false
                                      last := validatePlan s s.now.mf } ∧
      flagSet (dealWithPlan s) .plan = true ∧ (dealWithPlan s).cp.planDetail = validatePlan s s.now.mf := by
  rw [dealWithPlan_ready ready]
  refine ⟨by rw [raisePlan_port], ?_, ?_⟩
  · simp [raisePlan, flagSet_raise]
  · rw [raisePlan, (onlyRaises_raise ..).planDetail]

theorem validatePlan_spacing {s : State} {a b : HeadNo} (found : spacingFault s.fs.staged = some (a, b)) (mf : Word16) :
    validatePlan s mf = .groupSpacing mf a b := by
  simp [validatePlan, found]

theorem validatePlan_conflict {s : State} {x : LinkNo} (spaced : spacingFault s.fs.staged = none)
    (found : reservationFault s s.fs.staged = some x) (mf : Word16) : validatePlan s mf = .reservationConflict mf x := by
  simp [validatePlan, spaced, found]

theorem validatePlan_applied {s : State} (spaced : spacingFault s.fs.staged = none)
    (none : reservationFault s s.fs.staged = none) (mf : Word16) : validatePlan s mf = .applied mf := by
  simp [validatePlan, spaced, none]

/-- The staged plan and the reservations are validated as the last frame left them. -/
theorem validatePlan_frameTaken (s : State) (mf : Word16) : validatePlan (frameTaken s) mf = validatePlan s mf := by
  simp only [validatePlan, reservationFault, table_congr (u := frameTaken s) (s := s) rfl]
  rfl

/-- What a boundary that deals with a committed plan leaves of the plans (R12). -/
theorem startFrame_validated {s : State} {r : PlanResult} (boundary : atBoundary s = true) (ready : s.fs.ready = true)
    (result : validatePlan s (s.fs.now.mf + 1#16) = r) :
    (startFrame s).fs.active = planAfter r s ∧ (startFrame s).fs.staged = planAfter r s ∧
      (startFrame s).fs.ready = false ∧ (startFrame s).fs.last = r ∧ flagSet (startFrame s) .plan = true ∧
      (startFrame s).cp.planDetail = r := by
  obtain ⟨fs, port⟩ := startFrame_dealt boundary
  obtain ⟨dealt, flag, detail⟩ := dealWithPlan_spec (s := frameTaken s) ready
  have mf : (frameTaken s).now.mf = s.fs.now.mf + 1#16 := congrArg Time.mf (nextFrame_boundary boundary)
  rw [validatePlan_frameTaken, mf, result] at dealt detail
  rw [fs, dealt, port.planDetail, detail]
  have plan : planAfter r (frameTaken s) = planAfter r s := by cases r <;> rfl
  exact ⟨plan, plan, rfl, rfl, port.flags _ flag, rfl⟩

end Sys2Proof.Machine

open Sys2Proof Sys2Proof.Machine

/-- Settles O5, by the cases of the validation: the first pair too close, else the first reservation out of place. -/
theorem planIsValidatedAtTheBoundary : Obligations.PlanIsValidatedAtTheBoundary := by
  intro s t running started last e
  have boundary := atBoundary_iff.mpr ⟨started, last⟩
  obtain rfl := (frameStart_next running).mp e
  obtain ⟨fs, port⟩ := startFrame_dealt boundary
  refine ⟨fun idle => ?_, fun ready => ?_⟩
  · rw [dealWithPlan_idle (s := frameTaken s) idle] at fs port
    rw [fs, port.planDetail]
    exact ⟨rfl, rfl, idle, rfl, rfl⟩
  · obtain ⟨active, staged, idle, result, flag, detail⟩ := startFrame_validated boundary ready rfl
    refine ⟨idle, staged.trans active.symm, flag, detail.trans result.symm, fun ⟨a, b, close⟩ => ?_, fun apart => ?_⟩
    · cases found : spacingFault s.fs.staged with
      | none => exact absurd close (spacingFault_none.mp found a b)
      | some ab =>
        obtain ⟨fails, least⟩ := spacingFault_some found
        rw [validatePlan_spacing found] at active result
        exact ⟨active, _, _, result, fails.1, fails.2.1, fails.2.2, fun c d lt eq near => least c d ⟨lt, eq, near⟩⟩
    · have spaced : spacingFault s.fs.staged = none :=
        spacingFault_none.mpr fun a b close => absurd (apart a b close.1 close.2.1) (by have := close.2.2; omega)
      refine ⟨fun inside => ?_, fun r mem out => ?_⟩
      · rw [validatePlan_applied spaced (reservationFault_none.mpr inside)] at active result
        exact ⟨active, result⟩
      · cases found : reservationFault s s.fs.staged with
        | none => exact absurd (reservationFault_none.mp found r mem) (by rw [out]; decide)
        | some x =>
          obtain ⟨q, held, rfl, outside, least⟩ := reservationFault_some found
          rw [validatePlan_conflict spaced found] at active result
          exact ⟨active, q, held, least r mem out, outside, result⟩
end

section
/-! SUPPORT. The cells a frame start builds, read off the state it leaves (R16 to R19). -/

namespace Sys2Proof.Machine

/-! ## The state the map is built from, and the state the frame start leaves -/

theorem startFrame_hp (s : State) : (startFrame s).hp = (frameOpened s).hp := by
  rw [(startFrame_aged s).frame]
  rfl

theorem frameOpened_reg (s : State) : (frameOpened s).reg = s.reg := by
  cases h : atBoundary s
  · rw [frameOpened_plain h]; rfl
  · rw [frameOpened_boundary h, openMultiframe_frame]; rfl

theorem startFrame_head (s : State) (h : HeadNo) : (startFrame s).head h = (frameOpened s).head h := by
  unfold State.head
  rw [startFrame_hp]

theorem startFrame_resv (s : State) : (startFrame s).fs.resv = s.fs.resv := by
  rw [startFrame_fs]
  exact frameOpened_resv s

theorem startFrame_cell (s : State) (h : HeadNo) (sl : SlotNo) :
    (startFrame s).cell h sl = buildCell (frameOpened s) (startFrame s).fs.now.frame h sl := by
  unfold State.cell
  rw [startFrame_fs]
  exact cell_buildMap ..

theorem inService_startFrame (s : State) (h : HeadNo) : inService (startFrame s) h = inService (frameOpened s) h := by
  unfold inService
  rw [startFrame_head]

theorem eligible_startFrame (s : State) (f : Fin 16) (h : HeadNo) (sl : SlotNo) :
    eligible (startFrame s) f h sl = eligible (frameOpened s) f h sl := by
  unfold eligible craneNear
  rw [startFrame_head, table_congr (startFrame_resv s), table_congr (frameOpened_resv s), startFrame_fs]

/-! ## The poll choice (R19) -/

/-- In an ascending list the place of an element counts the elements below it. -/
theorem idxOf_ascending {n : Nat} {l : List (Fin n)} (ascending : l.Pairwise (· < ·)) {a : Fin n} (mem : a ∈ l) :
    l.idxOf a = (l.filter fun k => decide (k < a)).length := by
  induction l with
  | nil => cases mem
  | cons b rest ih =>
    obtain ⟨least, tail⟩ := List.pairwise_cons.mp ascending
    rcases List.mem_cons.mp mem with rfl | later
    · have none : (rest.filter fun k => decide (k < a)) = [] := by
        simp only [List.filter_eq_nil_iff, decide_eq_true_eq]
        exact fun k hk lt => absurd (lt.trans (least k hk)) (lt_irrefl _)
      simp [none]
    · have lt := least a later
      rw [List.idxOf_cons_ne _ lt.ne, ih tail later]
      simp [lt]

theorem idxOf_eligibleSlots {s : State} {f : Fin 16} {h : HeadNo} {sl : SlotNo} (k : eligible s f h sl = true) :
    (eligibleSlots s f h).idxOf sl =
      ((List.finRange 24).filter fun k => decide (k < sl) && eligible s f h k).length := by
  rw [eligibleSlots, idxOf_ascending ((List.pairwise_lt_finRange 24).filter _) (by simpa using k), List.filter_filter]

theorem candidates_eq (s : State) (h : HeadNo) : candidates s h = match s.fs.active.order with
    | .oldest => s.reg.pollQueue.filter fun u => (s.unit u).serving == some h
    | .lowestIndex => (List.finRange 1024).filter fun u =>
        decide (u ∈ s.reg.pollQueue) && (s.unit u).serving == some h := by
  unfold candidates
  dsimp only
  cases s.fs.active.order
  · rfl
  · refine List.filter_congr fun u _ => ?_
    rw [Bool.eq_iff_iff]
    simp [List.mem_filter]

/-- R19: the first cells take the candidates in turn. -/
theorem reeferCell_eq {s : State} {f : Fin 16} {h : HeadNo} {sl : SlotNo} (k : eligible s f h sl = true) {i : Nat}
    (hi : i = ((List.finRange 24).filter fun k => decide (k < sl) && eligible s f h k).length) :
    reeferCell s f h sl = match (candidates s h)[i]? with
      | some u => if i < s.fs.active.maxPolls.1 then .poll u (s.unit u).unitId else .contention
      | none => .contention := by
  unfold reeferCell
  dsimp only
  rw [idxOf_eligibleSlots k, ← hi]
  cases (candidates s h)[i]? with
  | none => exact ite_self _
  | some u => rfl

/-! ## The branches (R16 to R18) -/

theorem listensTo_none {s : State} {f : Fin 16} {h : HeadNo} {sl : SlotNo} : listensTo s f h sl = none ↔
    ∀ r ∈ table s, r.place.slot = sl → due r.place f = true → dist r.place.head h ≠ 1 := by
  simp only [listensTo, List.findSome?_eq_none_iff, Option.map_eq_none_iff, mem_adjacent, dueAt_none]
  exact ⟨fun k r mem slot d one => k _ one r mem slot d rfl, fun k a one r mem slot d eq => k r mem slot d (eq ▸ one)⟩

/-- The CRANE cells next to one cell are of one reservation: on two heads they would collide (R64). -/
theorem listensTo_of_mem {s : State} (law : TableLaw s) {f : Fin 16} {h : HeadNo} {r : Reservation} (mem : r ∈ table s)
    (d : due r.place f = true) (one : dist r.place.head h = 1) : listensTo s f h r.place.slot = some r.link := by
  cases k : listensTo s f h r.place.slot with
  | none => exact absurd one (listensTo_none.mp k r mem rfl d)
  | some x =>
    obtain ⟨q, memq, rfl, oneq, slot, dq, -⟩ := listensTo_some k
    have near : dist r.place.head q.place.head ≤ 2 := by
      unfold dist at *
      omega
    rw [due_unique law mem memq slot.symm near d dq]

section
variable {s : State} {f : Fin 16} {h : HeadNo} {sl : SlotNo} (h0 : sl ≠ 0)
  (free : ∀ r ∈ table s, r.place.slot = sl → due r.place f = true → r.place.head ≠ h)
include h0 free

theorem buildCell_listening (serving : inService s h = true) {x : LinkNo} (k : listensTo s f h sl = some x) :
    buildCell s f h sl = .listen x := by
  rw [buildCell_free h0 (dueAt_none.mpr free), if_pos serving, k]

theorem buildCell_alone (serving : inService s h = true) (k : listensTo s f h sl = none) :
    buildCell s f h sl = if eligible s f h sl = true then reeferCell s f h sl else .quiet := by
  rw [buildCell_free h0 (dueAt_none.mpr free), if_pos serving, k]

end

theorem buildCell_reefer {s : State} {f : Fin 16} {h : HeadNo} {sl : SlotNo} (k : eligible s f h sl = true) :
    buildCell s f h sl = reeferCell s f h sl := by
  obtain ⟨h0, on, -, far⟩ := eligible_iff.mp k
  have free : ∀ r ∈ table s, r.place.slot = sl → due r.place f = true → r.place.head ≠ h := by
    intro r mem slot d eq
    have := far r mem slot d
    simp [eq, dist] at this
  have alone : listensTo s f h sl = none := by
    refine listensTo_none.mpr fun r mem slot d one => ?_
    have := far r mem slot d
    omega
  rw [buildCell_alone h0 free (by simp [inService, on]) alone, if_pos k]

end Sys2Proof.Machine

open Sys2Proof Sys2Proof.Machine

/-- Settles O6, branch by branch of the cell built. -/
theorem mapIsBuilt : Obligations.MapIsBuilt := by
  intro s t running law e h sl h0
  obtain rfl := (frameStart_next running).mp e
  have resv : table s = table (frameOpened s) := (table_congr (frameOpened_resv s)).symm
  have law : TableLaw (frameOpened s) := by
    unfold TableLaw
    rw [← resv]
    exact law
  have active : (startFrame s).fs.active = (frameOpened s).fs.active := by rw [startFrame_fs]
  simp only [eligible_startFrame, startFrame_cell, inService_startFrame, startFrame_head, resv, active]
  generalize (startFrame s).fs.now.frame = f
  refine ⟨?_, ?_, ?_, ?_⟩
  · rw [eligible_iff]
    exact and_iff_right h0
  · rintro r mem rfl rfl d
    exact buildCell_crane h0 (dueAt_of_mem law mem d)
  · intro free serving
    refine ⟨?_, fun far odd => ?_⟩
    · rintro r mem rfl d one
      exact buildCell_listening h0 free serving (listensTo_of_mem law mem d one)
    · have alone := listensTo_none.mpr fun r mem slot d => (far r mem slot d).ne'
      rw [buildCell_alone h0 free serving alone, if_neg]
      rw [eligible_iff]
      rintro ⟨-, on, group, near⟩
      rcases odd with ⟨r, mem, slot, d, two⟩ | draining | other
      · have := near r mem slot d
        omega
      · rw [on] at draining
        cases draining
      · exact other group
  · rintro units i rfl hi k
    rw [buildCell_reefer k, reeferCell_eq k hi, candidates_eq]
    simp only [State.unit, frameOpened_reg] <;> rfl
end

section
/-! SUPPORT. Repetitions over the heads seen from one head, and what a frame start leaves of each (R1, R31, R42, R155). -/

namespace Sys2Proof.Machine

/-! ## One member's turn among the others -/

/-- What the other members' turns keep stands before and after the turn of one. -/
theorem forEach_around {α : Type} {R : State → State → Prop} (refl : ∀ s, R s s)
    (trans : ∀ {s u v}, R s u → R u v → R s v) {f : α → State → State} {l : List α} (nodup : l.Nodup) {a : α}
    (mem : a ∈ l) (others : ∀ b, b ≠ a → ∀ s, R s (f b s)) (s : State) : ∃ u, R s u ∧ R (f a u) (forEach l f s) := by
  obtain ⟨before, after, rfl⟩ := List.append_of_mem mem
  obtain ⟨-, tail, apart⟩ := List.nodup_append.mp nodup
  have late := (List.nodup_cons.mp tail).1
  have rest : ∀ k : List α, a ∉ k → ∀ v, R v (forEach k f v) := fun k out v =>
    forEach_keeps (P := R v) k (fun b hb u h => trans h (others b (fun e => out (e ▸ hb)) u)) (refl v)
  refine ⟨forEach before f s, rest before (fun early => apart a early a (List.mem_cons_self ..) rfl) s, ?_⟩
  have split : forEach (before ++ a :: after) f s = forEach after f (f a (forEach before f s)) := by
    simp [forEach, List.foldl_append]
  rw [split]
  exact rest after late _

theorem forHeads_around {R : State → State → Prop} (refl : ∀ s, R s s) (trans : ∀ {s u v}, R s u → R u v → R s v)
    {f : HeadNo → State → State} (h : HeadNo) (others : ∀ g, g ≠ h → ∀ s, R s (f g s)) (s : State) :
    ∃ u, R s u ∧ R (f h u) (forHeads f s) :=
  forEach_around refl trans (List.nodup_finRange 12) (List.mem_finRange h) others s

theorem forLinks_around {R : State → State → Prop} (refl : ∀ s, R s s) (trans : ∀ {s u v}, R s u → R u v → R s v)
    {f : LinkNo → State → State} (x : LinkNo) (others : ∀ y, y ≠ x → ∀ s, R s (f y s)) (s : State) :
    ∃ u, R s u ∧ R (f x u) (forLinks f s) :=
  forEach_around refl trans (List.nodup_finRange 24) (List.mem_finRange x) others s

/-- A repetition whose turns touch one head's record each leaves a head what its own turn makes of it. -/
theorem forHeads_head {f : HeadNo → State → State} {h : HeadNo} {g : HeadRecord → HeadRecord}
    (own : ∀ s, (f h s).head h = g (s.head h)) (others : ∀ k, k ≠ h → ∀ s, (f k s).head h = s.head h) (s : State) :
    (forHeads f s).head h = g (s.head h) := by
  obtain ⟨u, before, after⟩ := forHeads_around (R := fun s u => u.head h = s.head h) (fun _ => rfl)
    (fun a b => b.trans a) h others s
  rw [after, own, before]

/-! ## The contention counts at a boundary (R42) -/

theorem record_entry (o : OpenSlot) (h : HeadNo) : o.record.entries.get h = (o.entries.get h).close := by
  simp [OpenSlot.record, Vector.get_eq_getElem]

/-- R42: the garbled counts of a slot record. -/
theorem forHeads_countGarbled (r : SlotRecord) (h : HeadNo) (s : State) : (forHeads (countGarbled r) s).head h =
    { s.head h with
      garbled := (s.head h).garbled + if garbledResult (r.entries.get h) = true then 1 else 0 } := by
  refine forHeads_head (g := fun e => { e with
    garbled := e.garbled + if garbledResult (r.entries.get h) = true then 1 else 0 }) (fun s => ?_) (fun k ne s => ?_) s
  · rw [countGarbled_head]
    by_cases k : garbledResult (r.entries.get h) = true <;> simp [k]
  · rw [countGarbled_head, if_neg fun both => ne both.1]

/-- What the boundary counts for head `h` of a slot still in progress (log entry 20). -/
def overtaken (s : State) (h : HeadNo) : Nat := match s.hp.openSlot with
  | some o => if o.time.mf + 1#16 = s.now.mf ∧ garbledResult (o.entries.get h).close = true then 1 else 0
  | none => 0

theorem settleGarbled_head (s : State) (h : HeadNo) : (settleGarbled s).head h =
    { s.head h with garbled := (s.head h).garbled + overtaken s h } := by
  cases eq : s.hp.openSlot with
  | none => simp [settleGarbled, overtaken, eq]
  | some o =>
    by_cases late : o.time.mf + 1#16 = s.now.mf
    · have counted := forHeads_countGarbled o.record h s
      rw [record_entry] at counted
      simp only [settleGarbled, overtaken, eq, late, if_true, true_and]
      exact counted
    · simp [settleGarbled, overtaken, eq, late]

theorem rollCounts_head (s : State) (h : HeadNo) : (rollCounts s).head h = { s.head h with
    offeredLast := (s.head h).offered, garbledLast := (s.head h).garbled, offered := 0, garbled := 0 } := by
  simp [rollCounts, State.head, Vector.get_eq_getElem]

theorem exponentAfter_head (e : Fin 8) (s : State) (h : HeadNo) : (exponentAfter e s).head h = s.head h := by
  simp only [State.head, exponentAfter]

/-- R42: the counts of the ended multiframe become the last counts. -/
theorem openMultiframe_head (s : State) (h : HeadNo) : (openMultiframe s).head h = { s.head h with
    offeredLast := (s.head h).offered, garbledLast := (s.head h).garbled + overtaken s h, offered := 0, garbled := 0 } := by
  have dealt : (dealWithPlan s).head h = s.head h ∧ overtaken (dealWithPlan s) h = overtaken s h := by
    rw [dealWithPlan_frame]
    exact ⟨rfl, rfl⟩
  rw [openMultiframe, updateExponent, exponentAfter_head, rollCounts_head, settleGarbled_head, dealt.1, dealt.2]

/-- R155: the exponent of a new multiframe is that of its last counts. -/
theorem openMultiframe_rep (s : State) : (openMultiframe s).rep = { s.rep with
    exponent := nextExponent s.rep.exponent (sumHeads (openMultiframe s) (·.offeredLast))
      (sumHeads (openMultiframe s) (·.garbledLast))
    lastOffered := sumHeads (openMultiframe s) (·.offeredLast)
    lastGarbled := sumHeads (openMultiframe s) (·.garbledLast) } := by
  have before : (rollCounts (settleGarbled (dealWithPlan s))).rep = s.rep := by
    unfold rollCounts
    rw [settleGarbled_frame, dealWithPlan_frame]
  unfold openMultiframe updateExponent exponentAfter
  dsimp only
  rw [before]
  rfl

theorem nextExponent_val (e : Fin 8) (c g : Nat) : (nextExponent e c g).1 =
    if c = 0 then e.1 else if c < 4 * g then min 7 (e.1 + 1) else if 16 * g < c then e.1 - 1 else e.1 := by
  unfold nextExponent
  split_ifs <;> rfl

/-! ## The heads and the beacon of a frame start -/

theorem frameTaken_head (s : State) (h : HeadNo) : (frameTaken s).head h = (s.head h).atFrameStart := by
  simp [frameTaken, shiftExchanges, takeRestores, advanceFrame, State.head, Vector.get_eq_getElem]

/-- R1, R31: the state of a head at a frame start is no matter of the contention counts. -/
theorem startFrame_headState (s : State) (h : HeadNo) : ((startFrame s).head h).state =
    (if (s.head h).restorePending = true then .on else (s.head h).state) ∧
    ((startFrame s).head h).restorePending = false := by
  rw [startFrame_head]
  cases k : atBoundary s
  · rw [frameOpened_plain k]
    change ((frameTaken s).head h).state = _ ∧ ((frameTaken s).head h).restorePending = _
    rw [frameTaken_head]
    exact ⟨rfl, rfl⟩
  · rw [frameOpened_boundary k, openMultiframe_head]
    change ((frameTaken s).head h).state = _ ∧ ((frameTaken s).head h).restorePending = _
    rw [frameTaken_head]
    exact ⟨rfl, rfl⟩

theorem joinMask_bit (s : State) (h : HeadNo) : (joinMask s).getLsbD h.1 = decide ((s.head h).state = .on) := by
  have key : ∀ (l : List HeadNo) (m : BitVec 12),
      (l.foldl (fun m g => if (s.head g).state = .on then addMember m g.1 else m) m).getLsbD h.1 =
        (m.getLsbD h.1 || decide (h ∈ l ∧ (s.head h).state = .on)) := by
    intro l
    induction l with
    | nil => simp
    | cons g l ih =>
      intro m
      rw [List.foldl_cons, ih]
      by_cases e : h = g
      · subst e
        split <;> simp_all [addMember]
      · have : ¬ h.1 = g.1 := fun k => e (Fin.ext k)
        split <;> simp [addMember, e, this]
  rw [joinMask, key]
  simp

theorem frameOpened_air (s : State) : (frameOpened s).fs.now = nextFrame s ∧ (frameOpened s).fs.airStarted = true ∧
    (frameOpened s).fs.slotStarted = false := by
  cases k : atBoundary s
  · rw [frameOpened_plain k]
    exact ⟨rfl, rfl, rfl⟩
  · rw [frameOpened_boundary k, openMultiframe_frame, dealWithPlan_frame]
    exact ⟨rfl, rfl, rfl⟩

theorem startFrame_air (s : State) : (startFrame s).fs.now = nextFrame s ∧ (startFrame s).fs.airStarted = true ∧
    (startFrame s).fs.slotStarted = false := by
  rw [startFrame_fs]
  exact frameOpened_air s

theorem nextFrame_eq (s : State) : nextFrame s = if s.fs.airStarted = true then
    (if s.fs.now.frame = 15 then ⟨s.fs.now.mf + 1#16, 0, 0⟩ else ⟨s.fs.now.mf, s.fs.now.frame + 1, 0⟩)
    else s.fs.now := by
  simp only [nextFrame, State.now, Fin.ext_iff]
  rfl

theorem startFrame_cell_zero (s : State) (h : HeadNo) :
    (startFrame s).cell h 0 = if inService (startFrame s) h = true then .beacon else .off := by
  rw [startFrame_cell, inService_startFrame]
  exact if_pos rfl

/-- R20: a head out of service has OFF cells where no reservation names it. -/
theorem startFrame_cell_off {s : State} {h : HeadNo} (sl : SlotNo) (out : inService (startFrame s) h = false)
    (free : ∀ r ∈ table s, r.place.head ≠ h) : (startFrame s).cell h sl = .off := by
  by_cases h0 : sl = 0
  · rw [h0, startFrame_cell_zero, out]
    rfl
  · have none : dueAt (frameOpened s) (startFrame s).fs.now.frame h sl = none :=
      dueAt_none.mpr fun r mem _ _ => free r (table_congr (frameOpened_resv s) ▸ mem)
    rw [inService_startFrame] at out
    rw [startFrame_cell, buildCell_free h0 none, out]
    rfl

theorem frameOpened_kept (s : State) : (frameOpened s).rep.acks = s.rep.acks ∧ holdInForce (frameOpened s) = holdInForce s := by
  cases k : atBoundary s
  · rw [frameOpened_plain k]
    exact ⟨rfl, rfl⟩
  · rw [frameOpened_boundary k, openMultiframe_frame]
    exact ⟨rfl, rfl⟩

/-- R6, R150: the beacon content is assembled from the state the frame opens in. -/
theorem startFrame_beacon (s : State) : (startFrame s).fs.beacon =
    { mf := (startFrame s).fs.now.mf, frame := (startFrame s).fs.now.frame, hold := holdInForce s
      exponent := (frameOpened s).rep.exponent, joinMask := joinMask (frameOpened s), acks := s.rep.acks.take 10 } := by
  rw [startFrame_fs, ← (frameOpened_kept s).1, ← (frameOpened_kept s).2]
  rfl

theorem startFrame_rep (s : State) : (startFrame s).rep.exponent = (frameOpened s).rep.exponent ∧
    (startFrame s).rep.lastOffered = (frameOpened s).rep.lastOffered ∧
    (startFrame s).rep.lastGarbled = (frameOpened s).rep.lastGarbled ∧ (startFrame s).rep.acks = s.rep.acks.drop 10 := by
  have acks : (startFrame s).rep.acks = (assembleBeacon (replaceMap (frameOpened s))).rep.acks := by
    rw [startFrame_eq]
    split
    · exact acks_ageRegistry ..
    · rfl
  rw [acks, (startFrame_aged s).rep, ← (frameOpened_kept s).1]
  exact ⟨rfl, rfl, rfl, rfl⟩

/-- Away from a boundary a frame start is the start of its air time, map and beacon (R1). -/
theorem startFrame_plain {s : State} (k : atBoundary s = false) :
    startFrame s = assembleBeacon (replaceMap (frameTaken s)) := by
  rw [startFrame_eq, k, frameOpened_plain k]
  rfl

/-- R42: what a boundary makes of a head's contention counts. -/
theorem startFrame_counts {s : State} (k : atBoundary s = true) (h : HeadNo) :
    ((startFrame s).head h).offeredLast = (s.head h).offered ∧ ((startFrame s).head h).offered = 0 ∧
      ((startFrame s).head h).garbled = 0 ∧
      ((startFrame s).head h).garbledLast = (s.head h).garbled + overtaken (frameTaken s) h := by
  rw [startFrame_head, frameOpened_boundary k, openMultiframe_head]
  change ((frameTaken s).head h).offered = _ ∧ _ ∧ _ ∧ ((frameTaken s).head h).garbled + overtaken (frameTaken s) h = _
  rw [frameTaken_head]
  exact ⟨rfl, rfl, rfl, rfl⟩

theorem overtaken_none {s : State} (none : s.hp.openSlot = none) (h : HeadNo) : overtaken (frameTaken s) h = 0 := by
  have : (frameTaken s).hp.openSlot = Option.none := congrArg (Option.map _) none
  simp [overtaken, this]

theorem overtaken_some {s : State} {o : OpenSlot} (k : atBoundary s = true) (some : s.hp.openSlot = some o)
    (same : o.time.mf = s.fs.now.mf) (h : HeadNo) :
    overtaken (frameTaken s) h = if garbledResult (o.entries.get h).close = true then 1 else 0 := by
  have slot : (frameTaken s).hp.openSlot = Option.some { o with stale := true } := congrArg (Option.map _) some
  have mf : (frameTaken s).now.mf = s.fs.now.mf + 1#16 := congrArg Time.mf (nextFrame_boundary k)
  simp [overtaken, slot, mf, same]

/-- R155: the exponent and the sums that a boundary leaves. -/
theorem startFrame_exponent {s : State} (k : atBoundary s = true) :
    (startFrame s).rep.lastOffered = sumHeads (startFrame s) (·.offeredLast) ∧
      (startFrame s).rep.lastGarbled = sumHeads (startFrame s) (·.garbledLast) ∧
      (startFrame s).rep.exponent =
        nextExponent s.rep.exponent (sumHeads (startFrame s) (·.offeredLast)) (sumHeads (startFrame s) (·.garbledLast)) := by
  obtain ⟨exponent, offered, garbled, -⟩ := startFrame_rep s
  have sums : ∀ f, sumHeads (startFrame s) f = sumHeads (frameOpened s) f := by
    intro f
    simp only [sumHeads, startFrame_head]
  have opened : frameOpened s = openMultiframe (frameTaken s) := frameOpened_boundary k
  have before : (frameTaken s).rep = s.rep := rfl
  rw [exponent, offered, garbled, sums, sums, opened, openMultiframe_rep, before]
  simp only [and_self]

end Sys2Proof.Machine

open Sys2Proof Sys2Proof.Machine

/-- Settles O4, from the parts of the frame start. -/
theorem frameStarts : Obligations.FrameStarts := by
  intro s running
  obtain ⟨now, air, slot⟩ := startFrame_air s
  obtain ⟨exponent, -, -, acks⟩ := startFrame_rep s
  have beacon := startFrame_beacon s
  refine ⟨startFrame s, (frameStart_next running).mpr rfl, air, slot, now.trans (nextFrame_eq s), startFrame_headState s,
    startFrame_cell_zero s, fun h sl => startFrame_cell_off sl, ?_, acks, ?_, ?_, ?_, fun h => ?_, ?_,
    fun started last => ?_, fun plain => ?_⟩
  · rw [beacon]
  · rw [beacon]
  · rw [beacon]
  · rw [beacon]
  · rw [beacon, startFrame_head]
    exact joinMask_bit _ h
  · rw [beacon, exponent]
  · have k := atBoundary_iff.mpr ⟨started, last⟩
    refine ⟨fun h => ?_, ?_⟩
    · obtain ⟨offeredLast, offered, garbled, garbledLast⟩ := startFrame_counts k h
      refine ⟨offeredLast, offered, garbled, fun none => ?_, fun o some same => ?_⟩
      · rw [garbledLast, overtaken_none none]
        rfl
      · rw [garbledLast, overtaken_some k some same]
    · rintro c g rfl rfl
      obtain ⟨offered, garbled, next⟩ := startFrame_exponent k
      refine ⟨offered, garbled, ?_⟩
      rw [next]
      exact nextExponent_val ..
  · have k : atBoundary s = false := by
      rw [← Bool.not_eq_true, atBoundary_iff]
      rintro ⟨started, last⟩
      rcases plain with not | not
      · rw [started] at not
        cases not
      · exact not last
    rw [startFrame_plain k]
    refine ⟨rfl, fun h => ?_, rfl⟩
    have head : (assembleBeacon (replaceMap (frameTaken s))).head h = (s.head h).atFrameStart := frameTaken_head s h
    rw [head]
    rfl
end

section
/-! SUPPORT. What a slot start gives each head (R38, R42). -/

namespace Sys2Proof.Machine

/-- What a slot start leaves of the entry, the order and the record of head `h` (R38, R42). -/
structure CellStarted (t : Time) (s : State) (h : HeadNo) (e : Entry) (o : Option SlotOrder) (r : HeadRecord) : Prop where
  cell : e.cell = s.cell h t.slot
  ret : e.ret = none
  mark : e.outOfService = (s.head h).outOfService
  out : (s.head h).outOfService = true → e.awaited = false ∧ o = none ∧ r = s.head h
  silent : (s.head h).outOfService = false → s.cell h t.slot = .quiet ∨ s.cell h t.slot = .off →
    e.awaited = false ∧ o = none ∧ r = s.head h
  beacon : (s.head h).outOfService = false → s.cell h t.slot = .beacon →
    e.awaited = false ∧ o = some ⟨t, 1#8, s.fs.beacon.bytes⟩
  listen : (s.head h).outOfService = false → ∀ x, s.cell h t.slot = .listen x →
    e.awaited = true ∧ o = some ⟨t, 3#8, []⟩
  poll : (s.head h).outOfService = false → ∀ u id, s.cell h t.slot = .poll u id →
    e.awaited = true ∧ o = some ⟨t, 4#8, withCheck (be32 id ++ t.bytes)⟩
  crane : (s.head h).outOfService = false → ∀ x role, s.cell h t.slot = .crane x role → r = s.head h ∧
    ((s.link x).mode = .closed → e.awaited = false ∧ o = none) ∧
    ((s.link x).mode ≠ .closed → e.awaited = true ∧ ∃ burst, o = some ⟨t, 2#8, burst⟩)
  contention : (s.head h).outOfService = false → s.cell h t.slot = .contention →
    e.awaited = true ∧ o = some ⟨t, 5#8, withCheck t.bytes⟩ ∧ r = { s.head h with offered := (s.head h).offered + 1 }

/-- What the slot start of head `h` does before it sends: it may compose a burst, or count a cell offered. -/
structure Prepared (h : HeadNo) (s v : State) : Prop where
  frame : v = { s with hp := { s.hp with heads := v.hp.heads }, cle := v.cle, cp := v.cp }
  head : ∀ g, g ≠ h → v.head g = s.head g
  mode : ∀ x, (v.link x).mode = (s.link x).mode

theorem Prepared.refl (h : HeadNo) (s : State) : Prepared h s s := ⟨rfl, fun _ _ => rfl, fun _ => rfl⟩

theorem Composing.prepared {h : HeadNo} {s v : State} (k : Composing s v) : Prepared h s v where
  frame := by rw [k.frame]
  head _ _ := by rw [k.frame]; rfl
  mode := k.mode

theorem prepared_setHead (h : HeadNo) (r : HeadRecord) (s : State) : Prepared h s (s.setHead h r) where
  frame := rfl
  head _ ne := get_put_other _ _ ne.symm
  mode _ := rfl

/-- R38, R42: the turn of head `h` at a slot start prepares, and sends its order and entry. -/
theorem startCell_sends (t : Time) (h : HeadNo) (s : State) : ∃ v e o, Prepared h s v ∧
    startCell t h s = setSlotEntry h e o v ∧ CellStarted t s h e o (v.head h) := by
  have nothing : startCell t h s = sendNothing h (s.cell h t.slot) s →
      CellStarted t s h ⟨s.cell h t.slot, false, none, (s.head h).outOfService⟩ none (s.head h) →
      ∃ v e o, Prepared h s v ∧ startCell t h s = setSlotEntry h e o v ∧ CellStarted t s h e o (v.head h) :=
    fun eq k => ⟨s, _, none, .refl h s, eq, k⟩
  by_cases out : (s.head h).outOfService = true
  · refine nothing (by simp [startCell, out]) ?_
    constructor <;> simp [out]
  · rw [Bool.not_eq_true] at out
    have sent : ∀ v c awaited burst, Prepared h s v → startCell t h s = sendOrder t h c awaited burst v →
        CellStarted t s h ⟨c, awaited, none, false⟩ (some ⟨t, c.code, burst⟩) (v.head h) →
        ∃ v e o, Prepared h s v ∧ startCell t h s = setSlotEntry h e o v ∧ CellStarted t s h e o (v.head h) :=
      fun v c awaited burst p eq k => ⟨v, _, _, p, eq, k⟩
    cases cell : s.cell h t.slot with
    | quiet =>
      refine nothing (by simp [startCell, out, cell]) ?_
      constructor <;> simp [out, cell]
    | off =>
      refine nothing (by simp [startCell, out, cell]) ?_
      constructor <;> simp [out, cell]
    | beacon =>
      refine sent s .beacon false s.fs.beacon.bytes (.refl h s) (by simp [startCell, out, cell]) ?_
      constructor <;> simp [out, cell, Cell.code]
    | listen x =>
      refine sent s (.listen x) true [] (.refl h s) (by simp [startCell, out, cell]) ?_
      constructor <;> simp [out, cell, Cell.code]
    | poll u id =>
      refine sent s (.poll u id) true (pollBurst t id) (.refl h s) (by simp [startCell, out, cell]) ?_
      constructor <;> simp [out, cell, Cell.code, pollBurst]
    | contention =>
      refine sent _ .contention true (invitation t) (prepared_setHead h _ s) (by simp only [startCell, out, cell]; rfl) ?_
      have head : ∀ r, (s.setHead h r).head h = r := fun r => get_put_same ..
      rw [head]
      constructor <;> simp [out, cell, Cell.code, invitation]
    | crane x role =>
      by_cases closed : (s.link x).mode = .closed
      · refine nothing (by simp [startCell, out, cell, closed]) ?_
        constructor <;> simp [out, cell, closed]
      · have composed := composing_composeDown s t x role h
        have head : (composeDown t x role h s).1.head h = s.head h := by rw [composed.frame]; rfl
        refine sent _ (.crane x role) true _ composed.prepared (by simp [startCell, out, cell, closed]; rfl) ?_
        rw [head]
        constructor <;> simp [out, cell, closed, Cell.code]

theorem CellStarted.congr {t : Time} {s u : State} {h : HeadNo} {e : Entry} {o : Option SlotOrder} {r : HeadRecord}
    (k : CellStarted t u h e o r) (fs : u.fs.map = s.fs.map) (beacon : u.fs.beacon = s.fs.beacon)
    (head : u.head h = s.head h) (mode : ∀ x, (u.link x).mode = (s.link x).mode) : CellStarted t s h e o r := by
  obtain ⟨k1, k2, k3, k4, k5, k6, k7, k8, k9, k10⟩ := k
  have cell : u.cell h t.slot = s.cell h t.slot := by
    unfold State.cell
    rw [fs]
  simp only [cell, head, mode, beacon] at k1 k3 k4 k5 k6 k7 k8 k9 k10
  exact ⟨k1, k2, k3, k4, k5, k6, k7, k8, k9, k10⟩

/-- What the turns of the other heads at a slot start keep of head `h` and of the whole. -/
structure Aside (h : HeadNo) (s u : State) : Prop where
  frame : u = { s with hp := u.hp, cle := u.cle, cp := u.cp }
  mode : ∀ x, (u.link x).mode = (s.link x).mode
  head : u.head h = s.head h
  order : u.hp.orders.get h = s.hp.orders.get h
  entry : u.hp.openSlot.map (fun o => (o.time, o.stale, o.entries.get h)) =
    s.hp.openSlot.map (fun o => (o.time, o.stale, o.entries.get h))

theorem Aside.refl (h : HeadNo) (s : State) : Aside h s s := ⟨rfl, fun _ => rfl, rfl, rfl, rfl⟩

theorem Aside.trans {h : HeadNo} {s u v : State} (a : Aside h s u) (b : Aside h u v) : Aside h s v where
  frame := by rw [b.frame, a.frame]
  mode x := (b.mode x).trans (a.mode x)
  head := b.head.trans a.head
  order := b.order.trans a.order
  entry := b.entry.trans a.entry

theorem aside_startCell (t : Time) {g h : HeadNo} (ne : g ≠ h) (s : State) : Aside h s (startCell t g s) := by
  obtain ⟨v, e, o, prepared, eq, -⟩ := startCell_sends t g s
  have hp : v.hp = { s.hp with heads := v.hp.heads } := congrArg State.hp prepared.frame
  have frame := startCell_frame t g s
  rw [eq] at frame ⊢
  refine ⟨frame, prepared.mode, prepared.head h ne.symm, ?_, ?_⟩
  · exact (get_put_other _ _ ne).trans (by rw [hp])
  · have slot : v.hp.openSlot = s.hp.openSlot := by rw [hp]
    rw [← slot]
    cases k : v.hp.openSlot <;> simp [setSlotEntry, k, ne]

/-- The state in which the turns of the heads at a slot start begin. -/
def slotBegun (s : State) : State :=
  { s with fs := { s.fs with slotStarted := true }, hp := { s.hp with openSlot := some (emptySlot s.now) } }

theorem startSlot_running {s : State} (air : s.fs.airStarted = true) (waiting : s.fs.slotStarted = false)
    (closed : s.hp.openSlot = none) : startSlot s = forHeads (startCell s.now) (slotBegun s) :=
  if_neg (by simp [air, waiting, closed])

/-- The slot in progress after a slot start, with the entry and order of each head. -/
theorem startSlot_started {s : State} (air : s.fs.airStarted = true) (waiting : s.fs.slotStarted = false)
    (closed : s.hp.openSlot = none) (h : HeadNo) : ∃ o, (startSlot s).hp.openSlot = some o ∧ o.time = s.fs.now ∧
      o.stale = false ∧ CellStarted s.fs.now s h (o.entries.get h) ((startSlot s).hp.orders.get h) ((startSlot s).head h) := by
  rw [startSlot_running air waiting closed]
  obtain ⟨u, before, after⟩ := forHeads_around (R := Aside h) (.refl h) .trans h (f := startCell s.now)
    (fun g ne => aside_startCell s.now ne) (slotBegun s)
  obtain ⟨v, e, o, prepared, eq, started⟩ := startCell_sends s.now h u
  generalize forHeads (startCell s.now) (slotBegun s) = t at after
  have slot : v.hp.openSlot = u.hp.openSlot := by rw [prepared.frame]
  rw [eq] at after
  have entry : ∃ n, t.hp.openSlot = some n ∧ n.time = s.fs.now ∧ n.stale = false ∧ n.entries.get h = e := by
    have own := after.entry
    have first := before.entry
    cases k : u.hp.openSlot with
    | none => rw [k] at first; cases first
    | some m =>
      simp only [k, slotBegun, Option.map_some, Option.some.injEq, Prod.mk.injEq] at first
      simp only [setSlotEntry, slot, k, Option.map_some, get_put_same, Option.map_eq_some_iff, Prod.mk.injEq] at own
      obtain ⟨n, eqn, time, stale, entry⟩ := own
      exact ⟨n, eqn, time.trans first.1, stale.trans first.2.1, entry⟩
  obtain ⟨n, eqn, time, stale, rfl⟩ := entry
  refine ⟨n, eqn, time, stale, ?_⟩
  have order : t.hp.orders.get h = o := after.order.trans (get_put_same ..)
  have head : t.head h = v.head h := after.head
  rw [order, head]
  exact started.congr (by rw [before.frame]; rfl) (by rw [before.frame]; rfl) before.head before.mode

/-- Log entry 5: otherwise a slot start is no event of air time. -/
theorem startSlot_idle {s : State} (k : s.fs.airStarted = false ∨ s.fs.slotStarted = true ∨ s.hp.openSlot ≠ none) :
    startSlot s = s := by
  refine if_pos ?_
  rcases k with air | started | busy
  · simp [air]
  · simp [started]
  · simp [Option.isSome_iff_ne_none.mpr busy]

theorem startSlot_fs {s : State} (air : s.fs.airStarted = true) (waiting : s.fs.slotStarted = false)
    (closed : s.hp.openSlot = none) : (startSlot s).fs = { s.fs with slotStarted := true } := by
  rw [startSlot_running air waiting closed]
  exact forHeads_keeps (f := startCell s.now) (P := fun u => u.fs = { s.fs with slotStarted := true })
    (fun h u k => by rw [startCell_frame]; exact k) rfl

end Sys2Proof.Machine

open Sys2Proof Sys2Proof.Machine

/-- Settles O7, by the turn of each head among the others. -/
theorem slotStarts : Obligations.SlotStarts := by
  refine ⟨fun s running air waiting closed => ?_, fun s running idle => ?_⟩
  · obtain ⟨o, slot, time, stale, -⟩ := startSlot_started air waiting closed 0
    refine ⟨startSlot s, o, whileRunning_running running, slot, time, stale, startSlot_fs air waiting closed, ?_, ?_, ?_,
      fun h => ?_⟩
    · rw [startSlot_frame]
    · rw [startSlot_frame]
    · rw [startSlot_frame]
    · obtain ⟨o', slot', -, -, k⟩ := startSlot_started air waiting closed h
      obtain rfl : o' = o := Option.some.inj (slot'.symm.trans slot)
      exact ⟨k.cell, k.ret, k.mark, k.out, fun off => ⟨k.silent off, k.beacon off, k.listen off, k.poll off, k.crane off,
        k.contention off⟩⟩
  · rw [show exec .slotStart s = .next (startSlot s) from whileRunning_running running, startSlot_idle idle]
end

section
/-! SUPPORT. What a slot close of slot 23 makes of a head: its status window and its drain timer (R27, R33, R35). -/

namespace Sys2Proof.Machine

/-! ## A head that is not DRAINING keeps its record -/

theorem HeadStep.kept {h : HeadNo} {s u : State} (k : HeadStep h s u) (steady : (s.head h).state ≠ .draining) :
    u.head h = s.head h := by
  rcases k.record with same | ⟨draining, -⟩
  · exact same
  · exact absurd draining steady

/-- A drain completion touches the state, the drain and the mark of a head alone (R34). -/
theorem HeadStep.frame {h : HeadNo} {s u : State} (k : HeadStep h s u) : u.head h = { s.head h with
    state := (u.head h).state, drainTimer := (u.head h).drainTimer, drainOutcome := (u.head h).drainOutcome
    outOfService := (u.head h).outOfService } := by
  rcases k.record with same | ⟨-, drained, -⟩
  · rw [same]
  · rw [drained]; rfl

/-- A head that a reservation still names has not completed a drain (R34). -/
theorem HeadStep.stays {h : HeadNo} {s u : State} (k : HeadStep h s u) (named : naming u h ≠ []) :
    u.head h = s.head h := by
  rcases k.record with same | ⟨-, -, done⟩
  · exact same
  · exact absurd done.bare named

/-! ## The status window (R27) -/

@[simp] theorem head_raiseHead (t : Time) (h g : HeadNo) (s : State) : (raiseHead t h s).head g = s.head g := by
  rw [raiseHead_port]
  rfl

/-- R28: what the loss of a head leaves of its own record. -/
theorem loseHead_own (t : Time) (h : HeadNo) (state : HeadState) (s : State) (steady : state ≠ .draining) :
    (loseHead t h state s).head h = { s.head h with
      state := state, restorePending := false, outOfService := true
      drainTimer := if (s.head h).state = .draining then 0 else (s.head h).drainTimer
      drainOutcome := if (s.head h).state = .draining then .cancelled else (s.head h).drainOutcome } ∧
    HeadSeen (loseHead t h state s) h := by
  refine ⟨?_, headSeen_raiseHead ..⟩
  unfold loseHead
  dsimp only
  generalize hu : takeOutOfService h _ = u
  have own : u.head h = { s.head h with
      state := state, restorePending := false, outOfService := true
      drainTimer := if (s.head h).state = .draining then 0 else (s.head h).drainTimer
      drainOutcome := if (s.head h).state = .draining then .cancelled else (s.head h).drainOutcome } := by
    rw [← hu, head_takeOutOfService, if_pos rfl, State.head_setHead_same]
  have links := (((handling_invalidateQuality (fun _ => True) u h).trans
    (Handling.forLinks (fun x s => handling_loseHeadOfLink _ t x s h) _)).trans (handling_unhome _ _ h)).trans
    (handling_raiseHead _ _ t h)
  rw [(links.heads h trivial).kept (by rw [own]; exact steady), own]

/-- R27: what a head leaving for ABSENT leaves of its own record. -/
theorem headDown_own (t : Time) (h : HeadNo) (s : State) : (∃ timer outcome mark,
    (headDown t h .absent s).head h = { s.head h with
      state := .absent, restorePending := false, drainTimer := timer, drainOutcome := outcome, outOfService := mark }) ∧
    HeadSeen (headDown t h .absent s) h := by
  unfold headDown
  split
  · obtain ⟨record, seen⟩ := loseHead_own t h .absent s (by decide)
    exact ⟨⟨_, _, _, record⟩, seen⟩
  · refine ⟨?_, headSeen_raiseHead ..⟩
    rw [head_raiseHead, State.head_setHead_same]
    exact ⟨_, _, _, rfl⟩

/-- R27: a window in which status was seen, or which is no third miss, leaves all but the counts. -/
theorem closeStatusWindow_plain {t : Time} {h : HeadNo} {s : State}
    (k : (s.head h).statusSeen = true ∨ (s.head h).missed < 2 ∨ (s.head h).state = .absent) :
    closeStatusWindow t h s = s.setHead h { s.head h with
      statusSeen := false
      missed := if (s.head h).statusSeen = true then (s.head h).missed else min 3 ((s.head h).missed + 1)
      linkUp := if (s.head h).statusSeen = true then (s.head h).linkUp else 0 } := by
  unfold closeStatusWindow
  cases seen : (s.head h).statusSeen
  · unfold missStatus
    dsimp only
    rw [if_neg (by simp), if_neg]
    · rw [seen]; simp
    · rintro ⟨third, present⟩
      rcases k with k | k | k
      · rw [seen] at k; cases k
      · omega
      · exact present k
  · simp

/-- R27: the third miss of a head that is present. -/
theorem closeStatusWindow_absent {t : Time} {h : HeadNo} {s : State} (seen : (s.head h).statusSeen = false)
    (third : 2 ≤ (s.head h).missed) (present : (s.head h).state ≠ .absent) :
    closeStatusWindow t h s =
      headDown t h .absent (s.setHead h { s.head h with missed := min 3 ((s.head h).missed + 1), linkUp := 0 }) := by
  unfold closeStatusWindow missStatus
  dsimp only
  rw [if_neg (by simp [seen]), if_pos ⟨by omega, present⟩]

/-- R27: the status window sets the counts, whatever else it does. -/
theorem closeStatusWindow_own (t : Time) (h : HeadNo) (s : State) : ∃ state restore timer outcome mark,
    (closeStatusWindow t h s).head h = { s.head h with
      statusSeen := false
      missed := if (s.head h).statusSeen = true then (s.head h).missed else min 3 ((s.head h).missed + 1)
      linkUp := if (s.head h).statusSeen = true then (s.head h).linkUp else 0
      state := state, restorePending := restore, drainTimer := timer, drainOutcome := outcome, outOfService := mark } := by
  by_cases plain : (s.head h).statusSeen = true ∨ (s.head h).missed < 2 ∨ (s.head h).state = .absent
  · rw [closeStatusWindow_plain plain, State.head_setHead_same]
    exact ⟨_, _, _, _, _, rfl⟩
  · push Not at plain
    obtain ⟨seen, third, present⟩ := plain
    replace seen := Bool.eq_false_iff.mpr seen
    rw [closeStatusWindow_absent seen third present]
    obtain ⟨⟨timer, outcome, mark, record⟩, -⟩ := headDown_own t h
      (s.setHead h { s.head h with missed := min 3 ((s.head h).missed + 1), linkUp := 0 })
    rw [record, State.head_setHead_same]
    exact ⟨.absent, false, timer, outcome, mark, by simp [seen]⟩

/-! ## The drain timer (R33, R35) -/

theorem drainEnded_fs (h : HeadNo) (s : State) : (drainEnded h s).fs = s.fs := by
  refine forLinks_keeps (P := fun u => u.fs = s.fs) (fun x u k => ?_) rfl
  unfold drainEndedOfLink
  split
  · exact k
  · exact k

theorem expireDrain_fs (t : Time) (h : HeadNo) (s : State) : (expireDrain t h s).fs = s.fs := by
  unfold expireDrain
  rw [drainEnded_fs, raiseHead_port]
  rfl

/-- R33: the drain timers name no reservation. -/
theorem tickDrain_fs (t : Time) (h : HeadNo) (s : State) : (tickDrain t h s).fs = s.fs := by
  unfold tickDrain
  dsimp only
  split
  · split
    · exact expireDrain_fs t h s
    · rfl
  · rfl

theorem tickDrain_idle {t : Time} {h : HeadNo} {s : State} (k : (s.head h).state ≠ .draining) : tickDrain t h s = s :=
  if_neg k

/-- R33: a drain goes on. -/
theorem tickDrain_runs {t : Time} {h : HeadNo} {s : State} (k : (s.head h).state = .draining)
    (time : 1 < (s.head h).drainTimer) :
    (tickDrain t h s).head h = { s.head h with drainTimer := (s.head h).drainTimer - 1 } := by
  unfold tickDrain
  dsimp only
  rw [if_pos k, if_neg (by omega), State.head_setHead_same]

/-- R35: a drain expires. -/
theorem tickDrain_expires {t : Time} {h : HeadNo} {s : State} (k : (s.head h).state = .draining)
    (time : (s.head h).drainTimer ≤ 1) :
    (tickDrain t h s).head h = { s.head h with
      state := .on, drainTimer := 0, drainOutcome := .failed (naming s h).length } ∧ HeadSeen (tickDrain t h s) h := by
  unfold tickDrain
  dsimp only
  rw [if_pos k, if_pos time]
  unfold expireDrain
  dsimp only
  generalize hu : raiseHead t h _ = u
  have own : u.head h = { s.head h with state := .on, drainTimer := 0, drainOutcome := .failed (naming s h).length } := by
    rw [← hu, head_raiseHead, State.head_setHead_same]
  have step := (handling_drainEnded (fun _ => True) h u).heads h trivial
  rw [step.kept (by simp [own]), own]
  exact ⟨rfl, step.seen (hu ▸ headSeen_raiseHead ..)⟩

/-- R33, R35: the timer's turn touches the state and the drain of its head alone. -/
theorem tickDrain_own (t : Time) (h : HeadNo) (s : State) : (tickDrain t h s).head h = { s.head h with
    state := ((tickDrain t h s).head h).state, drainTimer := ((tickDrain t h s).head h).drainTimer
    drainOutcome := ((tickDrain t h s).head h).drainOutcome } := by
  by_cases k : (s.head h).state = .draining
  · rcases Nat.lt_or_ge 1 (s.head h).drainTimer with time | time
    · rw [tickDrain_runs k time]
    · rw [(tickDrain_expires k time).1]
  · rw [tickDrain_idle k]

/-! ## The close of slot 23 for one head (R27, R33) -/

theorem headStep_window (t : Time) {g h : HeadNo} (ne : g ≠ h) (s : State) : HeadStep h s (closeStatusWindow t g s) :=
  (handling_closeStatusWindow (P := (· ≠ g)) (by simp) t s).heads h ne.symm

theorem headStep_tick (t : Time) {g h : HeadNo} (ne : g ≠ h) (s : State) : HeadStep h s (tickDrain t g s) :=
  (handling_tickDrain (P := (· ≠ g)) (by simp) t s).heads h ne.symm

/-- The close of slot 23 as head `h` sees it: other heads' windows, its own, other heads' timers, its own, and the rest;
no timer names a reservation. -/
theorem closeFrame_around (t : Time) (h : HeadNo) (s : State) : ∃ u v, HeadStep h s u ∧
    HeadStep h (closeStatusWindow t h u) v ∧ HeadStep h (tickDrain t h v) (closeFrame t s) ∧
    (closeFrame t s).fs.resv = v.fs.resv := by
  obtain ⟨u, before, mid⟩ := forHeads_around (R := HeadStep h) (.refl h) .trans h (f := closeStatusWindow t)
    (fun g ne => headStep_window t ne) s
  generalize hw : forHeads (closeStatusWindow t) s = w at mid
  obtain ⟨v, ⟨first, same⟩, after, rest⟩ := forHeads_around (R := fun s u => HeadStep h s u ∧ u.fs = s.fs)
    (fun s => ⟨.refl h s, rfl⟩) (fun a b => ⟨a.1.trans b.1, b.2.trans a.2⟩) h (f := tickDrain t)
    (fun g ne s => ⟨headStep_tick t ne s, tickDrain_fs t g s⟩) w
  have eq : closeFrame t s = forHeads (tickDrain t) w := by rw [closeFrame, hw]
  refine ⟨u, v, before, mid.trans first, eq ▸ after, ?_⟩
  rw [eq, rest, tickDrain_fs]

section
variable {t : Time} {h : HeadNo} {s : State}

/-- R27: the counts of a head's window after the close of slot 23, and what never changes there. -/
theorem closeFrame_counts (t : Time) (h : HeadNo) (s : State) :
    ∃ state restore timer outcome mark, (closeFrame t s).head h = { s.head h with
      statusSeen := false
      missed := if (s.head h).statusSeen = true then (s.head h).missed else min 3 ((s.head h).missed + 1)
      linkUp := if (s.head h).statusSeen = true then (s.head h).linkUp else 0
      state := state, restorePending := restore, drainTimer := timer, drainOutcome := outcome, outOfService := mark } := by
  obtain ⟨u, v, before, mid, after, -⟩ := closeFrame_around t h s
  obtain ⟨_, _, _, _, _, window⟩ := closeStatusWindow_own t h u
  rw [after.frame, tickDrain_own, mid.frame, window, before.frame]
  exact ⟨_, _, _, _, _, rfl⟩

/-- R27: the third miss makes a head ABSENT. -/
theorem closeFrame_absent (seen : (s.head h).statusSeen = false) (third : 2 ≤ (s.head h).missed) :
    ((closeFrame t s).head h).state = .absent ∧ ((s.head h).state ≠ .absent →
      ((closeFrame t s).head h).restorePending = false ∧ HeadSeen (closeFrame t s) h) := by
  obtain ⟨u, v, before, mid, after, -⟩ := closeFrame_around t h s
  have frame := before.frame
  have seenU : (u.head h).statusSeen = false := by rw [frame]; exact seen
  have thirdU : 2 ≤ (u.head h).missed := by rw [frame]; exact third
  have later : ((closeStatusWindow t h u).head h).state = .absent →
      (closeFrame t s).head h = (closeStatusWindow t h u).head h ∧
        (HeadSeen (closeStatusWindow t h u) h → HeadSeen (closeFrame t s) h) := by
    intro absent
    have own : v.head h = (closeStatusWindow t h u).head h := mid.kept (by rw [absent]; decide)
    have still : (v.head h).state ≠ .draining := by
      rw [own, absent]
      decide
    rw [tickDrain_idle still] at after
    exact ⟨(after.kept still).trans own, fun k => after.seen (mid.seen k)⟩
  by_cases present : (u.head h).state = .absent
  · have window := closeStatusWindow_plain (t := t) (.inr (.inr present))
    have absent : ((closeStatusWindow t h u).head h).state = .absent := by
      rw [window, State.head_setHead_same]
      exact present
    refine ⟨by rw [(later absent).1, absent], fun k => absurd ?_ k⟩
    rcases before.record with same | ⟨-, drained, -⟩
    · rw [← same]; exact present
    · rw [drained] at present
      cases present
  · have window := closeStatusWindow_absent (t := t) seenU thirdU present
    obtain ⟨⟨_, _, _, record⟩, raised⟩ := headDown_own t h
      (u.setHead h { u.head h with missed := min 3 ((u.head h).missed + 1), linkUp := 0 })
    rw [← window] at record raised
    obtain ⟨same, keeps⟩ := later (by rw [record])
    rw [same, record]
    exact ⟨rfl, fun _ => ⟨rfl, keeps raised⟩⟩

variable (present : (s.head h).statusSeen = true ∨ (s.head h).missed < 2)
include present

/-- A head that is not DRAINING and has not missed its third status keeps its state. -/
theorem closeFrame_steady (steady : (s.head h).state ≠ .draining) :
    ((closeFrame t s).head h).state = (s.head h).state ∧
      ((closeFrame t s).head h).restorePending = (s.head h).restorePending := by
  obtain ⟨u, v, before, mid, after, -⟩ := closeFrame_around t h s
  have first := before.kept steady
  have window := closeStatusWindow_plain (t := t) (h := h) (s := u) (by rw [first]; exact present.imp_right .inl)
  rw [window] at mid
  have second := mid.kept (by rw [State.head_setHead_same, first]; exact steady)
  rw [State.head_setHead_same, first] at second
  have still : (v.head h).state ≠ .draining := by rw [second]; exact steady
  rw [tickDrain_idle still] at after
  rw [after.kept still, second]
  exact ⟨rfl, rfl⟩

/-- No reservation comes to a head that is out of service (R34). -/
theorem closeFrame_bare (out : (s.head h).state = .off) (bare : naming s h = []) : naming (closeFrame t s) h = [] := by
  obtain ⟨u, v, before, mid, after, resv⟩ := closeFrame_around t h s
  have first := before.kept (by rw [out]; decide)
  have none : naming u h = [] := before.bare (by rw [out]; decide) bare
  have window := closeStatusWindow_plain (t := t) (h := h) (s := u) (by rw [first]; exact present.imp_right .inl)
  rw [window] at mid
  rw [naming_congr resv h]
  refine mid.bare ?_ none
  rw [State.head_setHead_same, first]
  simp [out]

/-- A DRAINING head that some reservation still names is one frame nearer its end (R33, R35). -/
theorem closeFrame_draining (draining : (s.head h).state = .draining) (named : naming (closeFrame t s) h ≠ []) :
    (1 < (s.head h).drainTimer → ((closeFrame t s).head h).state = .draining ∧
      ((closeFrame t s).head h).drainTimer = (s.head h).drainTimer - 1) ∧
    ((s.head h).drainTimer ≤ 1 → ((closeFrame t s).head h).state = .on ∧ ((closeFrame t s).head h).drainTimer = 0 ∧
      ((closeFrame t s).head h).drainOutcome = .failed (naming (closeFrame t s) h).length ∧
      HeadSeen (closeFrame t s) h) := by
  obtain ⟨u, v, before, mid, after, resv⟩ := closeFrame_around t h s
  have count := naming_congr resv h
  rw [count] at named ⊢
  have second := mid.stays named
  have seen : (u.head h).statusSeen = (s.head h).statusSeen := by rw [before.frame]
  have missed : (u.head h).missed = (s.head h).missed := by rw [before.frame]
  have window : closeStatusWindow t h u = u.setHead h { u.head h with
      statusSeen := false
      missed := if (u.head h).statusSeen = true then (u.head h).missed else min 3 ((u.head h).missed + 1)
      linkUp := if (u.head h).statusSeen = true then (u.head h).linkUp else 0 } :=
    closeStatusWindow_plain (by rw [seen, missed]; exact present.imp_right .inl)
  rw [window] at mid second
  rw [State.head_setHead_same] at second
  have first : u.head h = s.head h := by
    rcases before.record with same | ⟨-, drained, done⟩
    · exact same
    · refine absurd (mid.bare ?_ done.bare) named
      rw [State.head_setHead_same, drained]
      simp [HeadRecord.drained]
  rw [first] at second
  have state : (v.head h).state = .draining := by rw [second]; exact draining
  have timer : (v.head h).drainTimer = (s.head h).drainTimer := by rw [second]
  refine ⟨fun runs => ?_, fun ends => ?_⟩
  · rw [after.stays (by rw [count]; exact named), tickDrain_runs state (by omega), timer]
    exact ⟨state, rfl⟩
  · obtain ⟨record, seen⟩ := tickDrain_expires (t := t) state (by omega)
    rw [after.stays (by rw [count]; exact named), record]
    exact ⟨rfl, rfl, rfl, after.seen seen⟩

end

end Sys2Proof.Machine
end

section
/-! SUPPORT. The close of a slot, part by part (R41, R42, R127, R1). -/

namespace Sys2Proof.Machine

/-! ## The entries of a slot record (R41, R42, R127) -/

theorem outerFailure_close (e : Entry) : outerFailure e.close = failsOuter e := by
  obtain ⟨cell, awaited, ret, out⟩ := e
  cases cell <;> cases out <;> cases awaited <;> rcases ret with _ | ⟨_ | _ | _, _, _⟩ <;> rfl

theorem garbledResult_close (e : Entry) : garbledResult e.close = bringsGarbled e := by
  obtain ⟨cell, awaited, ret, out⟩ := e
  cases cell <;> cases out <;> cases awaited <;> rcases ret with _ | ⟨_ | _ | _, _, _⟩ <;> rfl

/-! ## The garbled counts of a closing slot (R42, log entry 20) -/

/-- The slot has been overtaken by the boundary of its multiframe. -/
theorem countClosed_current {o : OpenSlot} (k : o.stale = false ∨ o.rolled = none) (s : State) :
    countClosed o s = forHeads (countGarbled o.record) s := by
  unfold countClosed
  rcases k with k | k
  · rw [k]
  · rw [k]
    cases o.stale <;> rfl

theorem countClosed_overtaken {o : OpenSlot} {b : Rolled} (stale : o.stale = true) (rolled : o.rolled = some b)
    (s : State) : countClosed o s = recount b o.record s := by
  unfold countClosed
  rw [stale, rolled]

theorem countClosed_head {o : OpenSlot} (k : o.stale = false ∨ o.rolled = none) (s : State) (h : HeadNo) :
    (countClosed o s).head h = { s.head h with
      garbled := (s.head h).garbled + if bringsGarbled (o.entries.get h) = true then 1 else 0 } := by
  rw [countClosed_current k, forHeads_countGarbled, record_entry, garbledResult_close]

theorem recount_hp (b : Rolled) (r : SlotRecord) (s : State) :
    (recount b r s).hp = (forHeads (recountHead r b.counted) s).hp := by
  simp only [recount, exponentAfter]

/-- The counts of the ended multiframe, as the other order leaves them (log entry 20). -/
theorem recount_head (b : Rolled) (o : OpenSlot) (s : State) (h : HeadNo) : (recount b o.record s).head h = { s.head h with
    garbledLast := (s.head h).garbledLast + (if bringsGarbled (o.entries.get h) = true then 1 else 0) -
      if b.counted.getLsbD h.1 = true then 1 else 0 } := by
  have counted : (forHeads (recountHead o.record b.counted) s).head h = { s.head h with
      garbledLast := (s.head h).garbledLast + (if bringsGarbled (o.entries.get h) = true then 1 else 0) -
        if b.counted.getLsbD h.1 = true then 1 else 0 } := by
    refine forHeads_head (g := fun e => { e with
      garbledLast := e.garbledLast + (if bringsGarbled (o.entries.get h) = true then 1 else 0) -
        if b.counted.getLsbD h.1 = true then 1 else 0 }) (fun s => ?_) (fun k ne s => ?_) s
    · rw [recountHead_head, if_pos rfl, record_entry, garbledResult_close]
    · rw [recountHead_head, if_neg ne]
  rw [← counted]
  unfold State.head
  rw [recount_hp]

theorem recount_rep (b : Rolled) (r : SlotRecord) (s : State) :
    (recount b r s).rep.lastOffered = sumHeads (recount b r s) (·.offeredLast) ∧
      (recount b r s).rep.lastGarbled = sumHeads (recount b r s) (·.garbledLast) ∧
      (recount b r s).fs.beacon.exponent = (recount b r s).rep.exponent ∧
      (recount b r s).rep.exponent = nextExponent b.exponent (sumHeads (recount b r s) (·.offeredLast))
        (sumHeads (recount b r s) (·.garbledLast)) := by
  have heads : ∀ f, sumHeads (recount b r s) f = sumHeads (forHeads (recountHead r b.counted) s) f := by
    intro f
    simp only [sumHeads, State.head, recount_hp]
  simp only [heads]
  simp only [recount, exponentAfter, and_self]

/-! ## The consumers of the record (R41) -/

section
variable (o : OpenSlot) (s : State)

/-- After the Registry the links are handled, and the heads' records stand until then. -/
theorem handOn_head (h : HeadNo) : ∃ u, u.head h = (countClosed o s).head h ∧ HeadStep h u (handOn o s) := by
  refine ⟨registryTakes o.record (countClosed o s), ?_, (handling_handOnLinks (fun _ => True) _ _).heads h trivial⟩
  rw [(registryFrame_registryTakes (countClosed o s) o.record).frame]
  rfl

/-- The consumers of a record leave air time and beacon, the slot in progress, and the exponent with its sums as the
garbled counts left them. -/
theorem handOn_frame : (handOn o s).fs = { (countClosed o s).fs with
      resv := (handOn o s).fs.resv, map := (handOn o s).fs.map } ∧
    (s.hp.openSlot = none → (handOn o s).hp.openSlot = none) ∧
    (handOn o s).rep = { (countClosed o s).rep with
      acks := (handOn o s).rep.acks, reports := (handOn o s).rep.reports, alarms := (handOn o s).rep.alarms
      ackLoss := (handOn o s).rep.ackLoss, overflow := (handOn o s).rep.overflow
      alarmOverflow := (handOn o s).rep.alarmOverflow } := by
  rw [handOn_eq]
  have links := handling_handOnLinks (fun _ => True) o.record (registryTakes o.record (countClosed o s))
  have registry := registryFrame_registryTakes (countClosed o s) o.record
  have fs : (registryTakes o.record (countClosed o s)).fs = (countClosed o s).fs := by rw [registry.frame]
  refine ⟨?_, fun none => links.idle ?_, ?_⟩
  · conv_lhs => rw [links.fs, fs]
  · rw [registry.frame, countClosed_frame]
    exact none
  · rw [links.rep]
    exact registry.rep

/-- R127: the outer-check failures of a record are counted, held at 65535. -/
theorem handOn_outerFails (few : s.reg.outerFails ≤ 65535) : (handOn o s).reg.outerFails = min 65535
    (s.reg.outerFails + ((List.finRange 12).filter fun h => failsOuter (o.entries.get h)).length) := by
  have counted : ∀ (l : List HeadNo) (u : State), u.reg.outerFails ≤ 65535 →
      (forEach l (takeReefer o.record) u).reg.outerFails =
        min 65535 (u.reg.outerFails + (l.filter fun h => failsOuter (o.entries.get h)).length) := by
    intro l
    induction l with
    | nil => intro u k; simp [k]
    | cons h l ih =>
      intro u k
      have one := (takeReefer_step u o.record h).2
      rw [record_entry, outerFailure_close] at one
      rw [forEach_cons]
      by_cases fails : failsOuter (o.entries.get h) = true
      · rw [if_pos fails, bump] at one
        rw [ih _ (by omega), one, List.filter_cons, if_pos fails, List.length_cons]
        omega
      · rw [if_neg fails] at one
        rw [ih _ (by omega), one, List.filter_cons, if_neg fails]
  have closed : (countClosed o s).reg = s.reg := by rw [countClosed_frame]
  have discarded := (RegistryStep.forEach (List.finRange 12) (fun h s => registryStep_missDiscarded s o.record h)
    (forHeads (takeReefer o.record) (countClosed o s))).outer
  have registry : (registryTakes o.record (countClosed o s)).reg.outerFails =
      (forHeads (takeReefer o.record) (countClosed o s)).reg.outerFails := discarded
  rw [handOn_eq, (handling_handOnLinks (fun _ => True) o.record (registryTakes o.record (countClosed o s))).reg, registry,
    forHeads, counted _ _ (by rw [closed]; exact few), closed]

end

/-! ## The slot close in its parts -/

/-- The slot in progress has ended. -/
def slotEnded (s : State) : State := { s with hp := { s.hp with openSlot := none } }

/-- R41: its record, where it has one, has been handed on. -/
def recordTaken (o : OpenSlot) (s : State) : State := if o.time.slot.1 = 0 then s else handOn o s

/-- R27, R33: with slot 23 its frame has closed. -/
def frameClosed (o : OpenSlot) (s : State) : State := if o.time.slot.1 = 23 then closeFrame o.time s else s

theorem closeSlot_eq {s : State} {o : OpenSlot} (k : s.hp.openSlot = some o) :
    closeSlot s = advanceSlot o (frameClosed o (recordTaken o (slotEnded s))) := by
  simp only [closeSlot, k]
  rfl

theorem handling_closeFrame (t : Time) (s : State) : Handling (fun _ => False) s (closeFrame t s) :=
  (Handling.forEach _ (fun h s => handling_closeStatusWindow (by simp) t s) s).trans
    (Handling.forEach _ (fun h s => handling_tickDrain (by simp) t s) _)

theorem handling_frameClosed (o : OpenSlot) (s : State) : Handling (fun _ => False) s (frameClosed o s) := by
  unfold frameClosed
  split
  · exact handling_closeFrame _ s
  · exact .refl _ s

/-- R1: the advance of the slot number leaves the rest. -/
theorem advanceSlot_frame (o : OpenSlot) (s : State) : advanceSlot o s =
    { s with
      fs := { s.fs with now := (advanceSlot o s).fs.now, slotStarted := (advanceSlot o s).fs.slotStarted }
      cle := { s.cle with prevExch := (advanceSlot o s).cle.prevExch } } := by
  unfold advanceSlot
  split
  · rfl
  · split <;> rfl

theorem advanceSlot_plain {o : OpenSlot} (k : o.stale = true ∨ o.time.slot = 23) (s : State) :
    (advanceSlot o s).fs = s.fs := by
  unfold advanceSlot
  split
  · rfl
  · rename_i current
    rcases k with stale | last
    · exact absurd stale current
    · rw [dif_neg (by simp [last])]

theorem advanceSlot_next {o : OpenSlot} (current : o.stale = false) (early : o.time.slot.1 < 23) (s : State) :
    (advanceSlot o s).fs.now.mf = s.fs.now.mf ∧ (advanceSlot o s).fs.now.frame = s.fs.now.frame ∧
      (advanceSlot o s).fs.now.slot.1 = o.time.slot.1 + 1 ∧ (advanceSlot o s).fs.slotStarted = false := by
  unfold advanceSlot
  rw [if_neg (by simp [current]), dif_pos early]
  exact ⟨rfl, rfl, rfl, rfl⟩

/-! ## The whole close -/

section
variable {o : OpenSlot} {s : State}

theorem recordTaken_zero (k : o.time.slot = 0) (s : State) : recordTaken o s = s := if_pos (by simp [k])

theorem recordTaken_record (k : o.time.slot ≠ 0) (s : State) : recordTaken o s = handOn o s :=
  if_neg (slot_ne_zero.mpr k)

theorem frameClosed_early (k : o.time.slot.1 < 23) (s : State) : frameClosed o s = s := if_neg (by omega)

theorem frameClosed_last (k : o.time.slot = 23) (s : State) : frameClosed o s = closeFrame o.time s := if_pos (by simp [k])

theorem recordTaken_frame (o : OpenSlot) (s : State) : (recordTaken o (slotEnded s)).hp.openSlot = none ∧
    (recordTaken o (slotEnded s)).fs.now = s.fs.now ∧ (recordTaken o (slotEnded s)).fs.slotStarted = s.fs.slotStarted := by
  by_cases k : o.time.slot = 0
  · rw [recordTaken_zero k]
    exact ⟨rfl, rfl, rfl⟩
  · obtain ⟨fs, idle, -⟩ := handOn_frame o (slotEnded s)
    rw [recordTaken_record k, fs, countClosed_frame]
    exact ⟨idle rfl, rfl, rfl⟩

/-- The head records that the window and the drain timers find, apart from a drain completed in the same close. -/
theorem recordTaken_head (o : OpenSlot) (s : State) (h : HeadNo) : ∃ u,
    u.head h = (if o.time.slot = 0 then s.head h else (countClosed o (slotEnded s)).head h) ∧
      HeadStep h u (recordTaken o (slotEnded s)) := by
  by_cases k : o.time.slot = 0
  · rw [recordTaken_zero k, if_pos k]
    exact ⟨slotEnded s, rfl, .refl h _⟩
  · rw [recordTaken_record k, if_neg k]
    exact handOn_head o (slotEnded s) h

/-- Counting touches the contention counts of a head alone (R42). -/
theorem countClosed_counts (o : OpenSlot) (s : State) (h : HeadNo) : ∃ garbled last,
    (countClosed o s).head h = { s.head h with garbled := garbled, garbledLast := last } := by
  by_cases k : o.stale = false ∨ o.rolled = none
  · rw [countClosed_head k]
    exact ⟨_, _, rfl⟩
  · push Not at k
    obtain ⟨b, rolled⟩ := Option.ne_none_iff_exists'.mp k.2
    rw [countClosed_overtaken (by simpa using k.1) rolled, recount_head]
    exact ⟨_, _, rfl⟩

/-- The window and the drain timer find the records as they were, but for the contention counts (R41). -/
theorem recordTaken_record_head (o : OpenSlot) (s : State) (h : HeadNo) : ∃ u garbled last,
    u.head h = { s.head h with garbled := garbled, garbledLast := last } ∧
      HeadStep h u (recordTaken o (slotEnded s)) := by
  obtain ⟨u, eq, step⟩ := recordTaken_head o s h
  by_cases k : o.time.slot = 0
  · exact ⟨u, _, _, eq.trans (if_pos k), step⟩
  · obtain ⟨garbled, last, counted⟩ := countClosed_counts o (slotEnded s) h
    exact ⟨u, garbled, last, eq.trans ((if_neg k).trans counted), step⟩

theorem advanceSlot_head (o : OpenSlot) (s : State) (h : HeadNo) : (advanceSlot o s).head h = s.head h := by
  rw [advanceSlot_frame]
  rfl

theorem headSeen_advanceSlot {h : HeadNo} (k : HeadSeen s h) : HeadSeen (advanceSlot o s) h := by
  rw [advanceSlot_frame]
  exact k

theorem naming_advanceSlot (o : OpenSlot) (s : State) (h : HeadNo) : naming (advanceSlot o s) h = naming s h :=
  naming_congr (by rw [advanceSlot_frame]) h

theorem closeFrame_contention (t : Time) (s : State) (h : HeadNo) :
    ((closeFrame t s).head h).offeredLast = (s.head h).offeredLast ∧ ((closeFrame t s).head h).garbled = (s.head h).garbled ∧
      ((closeFrame t s).head h).garbledLast = (s.head h).garbledLast := by
  obtain ⟨_, _, _, _, _, eq⟩ := closeFrame_counts t h s
  rw [eq]
  exact ⟨rfl, rfl, rfl⟩

/-- R42: the contention counts that the close leaves are those of its record. -/
theorem closeSlot_contention (slot : s.hp.openSlot = some o) (record : o.time.slot ≠ 0) (h : HeadNo) :
    ((closeSlot s).head h).offeredLast = ((countClosed o (slotEnded s)).head h).offeredLast ∧
      ((closeSlot s).head h).garbled = ((countClosed o (slotEnded s)).head h).garbled ∧
      ((closeSlot s).head h).garbledLast = ((countClosed o (slotEnded s)).head h).garbledLast := by
  obtain ⟨u, same, step⟩ := handOn_head o (slotEnded s) h
  rw [closeSlot_eq slot, advanceSlot_head, recordTaken_record record, ← same]
  have handed : ((handOn o (slotEnded s)).head h).offeredLast = (u.head h).offeredLast ∧
      ((handOn o (slotEnded s)).head h).garbled = (u.head h).garbled ∧
      ((handOn o (slotEnded s)).head h).garbledLast = (u.head h).garbledLast := by
    rw [step.frame]
    exact ⟨rfl, rfl, rfl⟩
  unfold frameClosed
  split
  · obtain ⟨offered, garbled, last⟩ := closeFrame_contention o.time (handOn o (slotEnded s)) h
    rw [offered, garbled, last]
    exact handed
  · exact handed

/-- The Report Unit and the beacon after the close are those the garbled counts left. -/
theorem closeSlot_exponent (slot : s.hp.openSlot = some o) (record : o.time.slot ≠ 0) :
    (closeSlot s).rep.lastOffered = (countClosed o (slotEnded s)).rep.lastOffered ∧
      (closeSlot s).rep.lastGarbled = (countClosed o (slotEnded s)).rep.lastGarbled ∧
      (closeSlot s).rep.exponent = (countClosed o (slotEnded s)).rep.exponent ∧
      (closeSlot s).fs.beacon = (countClosed o (slotEnded s)).fs.beacon := by
  obtain ⟨fs, -, rep⟩ := handOn_frame o (slotEnded s)
  have frame := handling_frameClosed o (handOn o (slotEnded s))
  rw [closeSlot_eq slot, recordTaken_record record, advanceSlot_frame]
  dsimp only
  rw [frame.rep, rep, frame.fs, fs]
  exact ⟨rfl, rfl, rfl, rfl⟩

theorem closeSlot_outerFails (slot : s.hp.openSlot = some o) (record : o.time.slot ≠ 0)
    (few : s.reg.outerFails ≤ 65535) : (closeSlot s).reg.outerFails = min 65535
    (s.reg.outerFails + ((List.finRange 12).filter fun h => failsOuter (o.entries.get h)).length) := by
  have frame := handling_frameClosed o (handOn o (slotEnded s))
  rw [closeSlot_eq slot, recordTaken_record record, advanceSlot_frame]
  dsimp only
  rw [frame.reg]
  dsimp only
  rw [handOn_outerFails o (slotEnded s) few]
  rfl

/-- R1: air time after a close is what the slot number's advance makes of it. -/
theorem closeSlot_parts (slot : s.hp.openSlot = some o) : ∃ u, closeSlot s = advanceSlot o u ∧
    u.hp.openSlot = none ∧ u.fs.now = s.fs.now ∧ u.fs.slotStarted = s.fs.slotStarted := by
  obtain ⟨idle, now, started⟩ := recordTaken_frame o s
  have frame := handling_frameClosed o (recordTaken o (slotEnded s))
  refine ⟨_, closeSlot_eq slot, frame.idle idle, ?_, ?_⟩
  · rw [frame.fs]
    exact now
  · rw [frame.fs]
    exact started

end

end Sys2Proof.Machine

open Sys2Proof Sys2Proof.Machine

/-- What the close of slot 23 does to one head (R27, R33, R35): the last clause of O9. -/
theorem Sys2Proof.Machine.closeSlot_last {s : State} {o : OpenSlot} (slot : s.hp.openSlot = some o)
    (last : o.time.slot = 23) (h : HeadNo) : ((closeSlot s).head h).statusSeen = false ∧
      ((s.head h).statusSeen = true → ((closeSlot s).head h).missed = (s.head h).missed ∧
        ((closeSlot s).head h).linkUp = (s.head h).linkUp) ∧
      ((s.head h).statusSeen = false → ((closeSlot s).head h).missed = min 3 ((s.head h).missed + 1) ∧
        ((closeSlot s).head h).linkUp = 0) ∧
      ((s.head h).statusSeen = false → 2 ≤ (s.head h).missed → ((closeSlot s).head h).state = .absent ∧
        ((s.head h).state ≠ .absent → ((closeSlot s).head h).restorePending = false ∧ HeadSeen (closeSlot s) h)) ∧
      ((s.head h).statusSeen = true ∨ (s.head h).missed < 2 →
        ((s.head h).state ≠ .draining → ((closeSlot s).head h).state = (s.head h).state ∧
          ((closeSlot s).head h).restorePending = (s.head h).restorePending) ∧
        ((s.head h).state = .draining → naming (closeSlot s) h ≠ [] →
          (1 < (s.head h).drainTimer → ((closeSlot s).head h).state = .draining ∧
            ((closeSlot s).head h).drainTimer = (s.head h).drainTimer - 1) ∧
          ((s.head h).drainTimer ≤ 1 → ((closeSlot s).head h).state = .on ∧ ((closeSlot s).head h).drainTimer = 0 ∧
            ((closeSlot s).head h).drainOutcome = .failed (naming (closeSlot s) h).length ∧
            HeadSeen (closeSlot s) h))) := by
  obtain ⟨u, garbled, lastGarbled, start, step⟩ := recordTaken_record_head o s h
  rw [closeSlot_eq slot, frameClosed_last last, naming_advanceSlot, advanceSlot_head]
  generalize recordTaken o (slotEnded s) = w at step
  have frame := step.frame
  rw [start] at frame
  have seen : (w.head h).statusSeen = (s.head h).statusSeen := by rw [frame]
  have missed : (w.head h).missed = (s.head h).missed := by rw [frame]
  have linkUp : (w.head h).linkUp = (s.head h).linkUp := by rw [frame]
  obtain ⟨_, _, _, _, _, counts⟩ := closeFrame_counts o.time h w
  have missedAfter := congrArg HeadRecord.missed counts
  have linkUpAfter := congrArg HeadRecord.linkUp counts
  dsimp only at missedAfter linkUpAfter
  rw [seen, missed] at missedAfter
  rw [seen, linkUp] at linkUpAfter
  refine ⟨congrArg HeadRecord.statusSeen counts, fun k => ?_, fun k => ?_, fun k third => ?_, fun k => ⟨fun steady => ?_,
    fun draining named => ?_⟩⟩
  · rw [missedAfter, linkUpAfter, if_pos k, if_pos k]
    exact ⟨rfl, rfl⟩
  · rw [missedAfter, linkUpAfter, k]
    exact ⟨rfl, rfl⟩
  · obtain ⟨absent, present⟩ := closeFrame_absent (t := o.time) (seen.trans k) (missed ▸ third)
    refine ⟨absent, fun ne => ?_⟩
    have there : (w.head h).state ≠ .absent := by
      rcases step.record with same | ⟨-, drained, -⟩
      · rw [same, start]
        exact ne
      · rw [drained]
        simp [HeadRecord.drained]
    exact ⟨(present there).1, headSeen_advanceSlot (present there).2⟩
  · have same : w.head h = u.head h := step.kept (by rw [start]; exact steady)
    rw [start] at same
    obtain ⟨state, restore⟩ := closeFrame_steady (t := o.time) (s := w) (h := h) (by rw [seen, missed]; exact k)
      (by rw [same]; exact steady)
    rw [state, restore, same]
    exact ⟨rfl, rfl⟩
  · have same : w.head h = u.head h := by
      rcases step.record with same | ⟨-, drained, done⟩
      · exact same
      · exact absurd (closeFrame_bare (by rw [seen, missed]; exact k) (by rw [drained]; rfl) done.bare) named
    rw [start] at same
    obtain ⟨runs, ends⟩ := closeFrame_draining (t := o.time) (s := w) (h := h) (by rw [seen, missed]; exact k)
      (by rw [same]; exact draining) named
    have timer : (w.head h).drainTimer = (s.head h).drainTimer := by rw [same]
    rw [timer] at runs ends
    refine ⟨runs, fun ending => ?_⟩
    obtain ⟨state, zero, outcome, raised⟩ := ends ending
    exact ⟨state, zero, outcome, headSeen_advanceSlot raised⟩

/-- Settles O9: each clause from the part of the close that it speaks of. -/
theorem slotCloses : Obligations.SlotCloses := by
  refine ⟨fun s running none => ?_, fun s o running slot time => ?_⟩
  · rw [show exec .slotClose s = .next (closeSlot s) from whileRunning_running running]
    simp only [closeSlot, none]
  obtain ⟨u, eq, idle, now, started⟩ := closeSlot_parts slot
  refine ⟨closeSlot s, whileRunning_running running, ?_, fun current early => ?_, fun k => ?_, fun early h => ?_,
    fun record few => closeSlot_outerFails slot record few, fun record k h => ?_,
    fun b c g record stale rolled hc hg => ?_, fun last h => closeSlot_last slot last h⟩
  · rw [eq, advanceSlot_frame]
    exact idle
  · have here : o.time = s.fs.now := time.resolve_left (by simp [current])
    obtain ⟨mf, frame, next, waiting⟩ := advanceSlot_next current early u
    rw [eq, mf, frame, next, now, here]
    exact ⟨rfl, rfl, rfl, waiting⟩
  · rw [eq, advanceSlot_plain k]
    exact ⟨now, started⟩
  · obtain ⟨v, garbled, last, start, step⟩ := recordTaken_record_head o s h
    rw [closeSlot_eq slot, advanceSlot_head, frameClosed_early early, step.frame, start]
    exact ⟨rfl, rfl, rfl⟩
  · obtain ⟨-, garbled, last⟩ := closeSlot_contention slot record h
    rw [garbled, last, countClosed_head k]
    exact ⟨rfl, rfl⟩
  · have counts := closeSlot_contention slot record
    obtain ⟨offered, garbled, exponent, beacon⟩ := closeSlot_exponent slot record
    simp only [counts, countClosed_overtaken stale rolled] at hc hg offered garbled exponent beacon
    obtain ⟨sumOffered, sumGarbled, shown, next⟩ := recount_rep b o.record (slotEnded s)
    refine ⟨fun h => ?_, ?_, ?_, ?_, ?_⟩
    · obtain ⟨a, b', c'⟩ := counts h
      rw [a, b', c', countClosed_overtaken stale rolled, recount_head]
      exact ⟨rfl, rfl, rfl⟩
    · rw [offered, sumOffered, hc]
      rfl
    · rw [garbled, sumGarbled, hg]
      rfl
    · rw [beacon, exponent, shown]
    · rw [exponent, next, nextExponent_val, hc, hg]
      rfl
end

section
/-! SUPPORT. What a drain start does to a head is no matter of the messages that wait at the Control Port (R32, R172):
HEAD RETIRE's reply shows the head as the command leaves it. -/

namespace Sys2Proof.Machine

/-! ## Operations that pass the Control Port by -/

/-- `s` with another state of the Control Port. -/
def withPort (s : State) (c : ControlPort) : State := { s with cp := c }

/-- `f` does the same to the rest of the machine whatever the state of the Control Port. -/
def Blind (f : State → State) : Prop := ∀ s c, ∃ d, f (withPort s c) = withPort (f s) d

namespace Blind

variable {f g : State → State}

theorem skip : Blind fun s => s := fun _ c => ⟨c, rfl⟩

theorem comp (hg : Blind g) (hf : Blind f) : Blind fun s => g (f s) := by
  intro s c
  obtain ⟨d, eq⟩ := hf s c
  obtain ⟨e, eq'⟩ := hg (f s) d
  exact ⟨e, (congrArg g eq).trans eq'⟩

/-- An operation on the Control Port alone. -/
theorem of_port (h : ∀ s, f s = { s with cp := (f s).cp }) : Blind f := by
  intro s c
  refine ⟨(f (withPort s c)).cp, ?_⟩
  rw [h (withPort s c), h s]
  rfl

theorem ite {p : State → Prop} [DecidablePred p] (view : ∀ s c, p (withPort s c) ↔ p s) (hf : Blind f)
    (hg : Blind g) : Blind fun s => if p s then f s else g s := by
  intro s c
  beta_reduce
  by_cases k : p s
  · rw [if_pos k, if_pos ((view s c).mpr k)]
    exact hf s c
  · rw [if_neg k, if_neg fun k' => k ((view s c).mp k')]
    exact hg s c

theorem forEach {α : Type} {F : α → State → State} (l : List α) (h : ∀ a, Blind (F a)) : Blind (forEach l F) := by
  induction l with
  | nil => exact skip
  | cons a l ih => exact ih.comp (h a)

end Blind

section
variable (s : State) (c : ControlPort)

@[simp] theorem link_withPort (x : LinkNo) : (withPort s c).link x = s.link x := rfl

@[simp] theorem resv_withPort (x : LinkNo) : (withPort s c).resv x = s.resv x := rfl

@[simp] theorem record_withPort (x : LinkNo) : (withPort s c).record x = s.record x := rfl

@[simp] theorem exch_withPort (x : LinkNo) : (withPort s c).exch x = s.exch x := rfl

@[simp] theorem head_withPort (h : HeadNo) : (withPort s c).head h = s.head h := rfl

end

section
variable (t : Time) (x : LinkNo)

theorem blind_raiseHead (h : HeadNo) : Blind (raiseHead t h) := .of_port (raiseHead_port t h)

theorem blind_raiseCrane : Blind (raiseCrane t x) := .of_port (raiseCrane_port t x)

theorem blind_updateLink (f : Link → Link) : Blind (updateLink x f) := fun _ c => ⟨c, rfl⟩

theorem blind_updateRecord (f : Handover → Handover) : Blind (updateRecord x f) := fun _ c => ⟨c, rfl⟩

theorem blind_completeDrain (h : HeadNo) : Blind (completeDrain t h) := by
  refine (blind_raiseHead t h).comp (f := fun s => unhome h (invalidateQuality h (takeOutOfService h
    (s.setHead h { s.head h with state := .off, drainTimer := 0, drainOutcome := .completed })))) ?_
  exact fun _ c => ⟨c, rfl⟩

theorem blind_testDrain (h : HeadNo) : Blind (testDrain t h) := by
  unfold testDrain
  exact .ite (fun _ _ => Iff.rfl) (blind_completeDrain t h) .skip

theorem blind_quietCells (p : Place) : Blind (quietCells x p) := by
  unfold quietCells
  refine .ite (fun _ _ => Iff.rfl) (.comp (.forEach _ fun h => ?_) (f := fun s => s.setCell p.head p.slot .quiet)
    fun _ c => ⟨c, rfl⟩) .skip
  exact .ite (fun _ _ => Iff.rfl) (fun _ c => ⟨c, rfl⟩) .skip

theorem blind_releasePrimary : Blind (releasePrimary t x) := by
  intro s c
  unfold releasePrimary
  rw [resv_withPort]
  cases (s.resv x).primary with
  | none => exact Blind.skip s c
  | some p =>
    exact ((blind_testDrain t p.head).comp (blind_quietCells x p)).comp
      (f := fun s => s.setResv x { s.resv x with primary := none }) (fun _ c => ⟨c, rfl⟩) s c

theorem blind_releaseTarget : Blind (releaseTarget t x) := by
  intro s c
  unfold releaseTarget
  rw [resv_withPort]
  cases (s.resv x).target with
  | none => exact Blind.skip s c
  | some p =>
    exact ((blind_testDrain t p.head).comp (blind_quietCells x p)).comp
      (f := fun s => s.setResv x { s.resv x with target := none }) (fun _ c => ⟨c, rfl⟩) s c

/-! ## Health, tests and handovers -/

theorem blind_recomputeStop : Blind (recomputeStop t x) := by
  unfold recomputeStop
  refine .ite (fun _ _ => Iff.rfl) (fun _ c => ⟨c, rfl⟩) (Blind.comp (g := raisePlain t .quayStop) ?_
    (f := fun s => { s with cle := { s.cle with
      contributions := withMember s.cle.contributions x.1 (contributes s x)
      qstop := withMember s.cle.contributions x.1 (contributes s x) != 0#24 } }) fun _ c => ⟨c, rfl⟩)
  exact .of_port fun s => by rw [raisePlain, raise_port]

theorem blind_setHealth (h : Health) : Blind (setHealth t x h) := by
  unfold setHealth
  exact .ite (fun _ _ => Iff.rfl) .skip
    (((blind_recomputeStop t x).comp (blind_raiseCrane t x)).comp (blind_updateLink x _))

theorem blind_abortTest : Blind (abortTest t x) := by
  intro s c
  unfold abortTest
  rw [link_withPort]
  cases (s.link x).mode <;> cases (s.link x).test
  case test.some p => exact ((blind_raiseCrane t x).comp (blind_updateLink x _)) s c
  all_goals exact Blind.skip s c

theorem blind_enterLost : Blind (enterLost t x) :=
  ((blind_abortTest t x).comp (blind_setHealth t x .lost)).comp (blind_updateLink x _)

theorem blind_unplace : Blind (unplace t x) :=
  ((((blind_raiseCrane t x).comp (blind_enterLost t x)).comp (blind_updateRecord x _)).comp
    (blind_releaseTarget t x)).comp (blind_releasePrimary t x)

theorem blind_dropTarget : Blind (dropTarget t x) := by
  intro s c
  obtain ⟨d, eq⟩ := blind_releaseTarget t x s c
  unfold dropTarget
  dsimp only
  rw [eq]
  exact ((blind_raiseCrane t x).comp (blind_updateRecord x _)) (releaseTarget t x s) d

theorem blind_enterDual (p : Place) (forced : Bool) : Blind (enterDual x p forced) := fun _ c => ⟨c, rfl⟩

theorem firstAdmitted_withPort (s : State) (c : ControlPort) :
    firstAdmitted (withPort s c) x (rankedNeighbours (withPort s c) x) = firstAdmitted s x (rankedNeighbours s x) := rfl

theorem blind_attemptForced : Blind (attemptForced x) := by
  intro s c
  unfold attemptForced
  dsimp only
  rw [firstAdmitted_withPort]
  cases firstAdmitted s x (rankedNeighbours s x) with
  | some p => exact ((blind_updateRecord x _).comp (blind_enterDual x p true)) s c
  | none => exact blind_updateRecord x _ s c

theorem blind_stepDual (w : Handover) : Blind (stepDual t x w) := by
  unfold stepDual abandonHandover
  exact .ite (fun _ _ => Iff.rfl) ((blind_dropTarget t x).comp (blind_updateRecord x _)) (blind_updateRecord x _)

/-! ## The settlement of an exchange (R97) -/

theorem blind_countTestExchange (errors : Nat) : Blind (countTestExchange t x errors) := by
  intro s c
  unfold countTestExchange
  rw [link_withPort]
  cases (s.link x).mode <;> cases (s.link x).test
  case test.some p =>
    exact Blind.ite (p := fun _ => p.target ≤ p.done + 1) (fun _ _ => Iff.rfl)
      ((blind_raiseCrane t x).comp (blind_updateLink x _)) (blind_updateLink x _) s c
  all_goals exact Blind.skip s c

theorem blind_settleTest (e : Exchange) : Blind (settleTest t x e) := by
  intro s c
  unfold settleTest
  rw [link_withPort]
  split
  · split
    · exact blind_countTestExchange t x _ s c
    · exact (blind_countTestExchange t x _).comp (f := fun s => { s with freeUsed := s.freeUsed + 1 })
        (fun _ c => ⟨c, rfl⟩) s c
  · exact blind_countTestExchange t x 64 s c
  · exact Blind.skip s c

theorem blind_stepRecovery (success : Bool) : Blind (stepRecovery t x success) := by
  unfold stepRecovery
  refine .ite (fun _ _ => Iff.rfl) ?_ (blind_enterLost t x)
  exact .ite (fun _ _ => Iff.rfl) ((blind_setHealth t x .good).comp (blind_updateLink x _)) (fun _ c => ⟨c, rfl⟩)

theorem blind_scoreOutcome (success : Bool) : Blind (scoreOutcome t x success) := by
  intro s c
  unfold scoreOutcome
  rw [link_withPort]
  split
  · exact Blind.skip s c
  · exact blind_stepRecovery t x success s c
  · exact Blind.ite (p := fun _ => nextScore (s.link x).score success = 255) (fun _ _ => Iff.rfl) (blind_enterLost t x)
      ((blind_setHealth t x _).comp (blind_updateLink x _)) s c

theorem blind_settleHandover (e : Exchange) : Blind (settleHandover t x e) := by
  intro s c
  unfold settleHandover
  rw [record_withPort]
  split
  · exact Blind.skip s c
  · rename_i w _
    split
    · exact Blind.ite (p := fun _ => e.targetStarted = true) (fun _ _ => Iff.rfl) (blind_stepDual t x w) .skip s c
    · exact Blind.ite (p := fun _ => w.forced = true) (fun _ _ => Iff.rfl)
        (.ite (p := fun s => (s.link x).health = .lost) (fun _ _ => Iff.rfl) (blind_unplace t x)
          (blind_attemptForced x)) .skip s c
    · exact Blind.skip s c

theorem blind_settle (e : Exchange) (result : CellResult) : Blind (settle t x e result) :=
  (((blind_settleHandover t x e).comp (blind_scoreOutcome t x _)).comp (blind_settleTest t x e)).comp
    (blind_updateLink x _)

theorem blind_settleAfterRelease : Blind (settleAfterRelease t x) := by
  intro s c
  unfold settleAfterRelease
  dsimp only
  rw [exch_withPort]
  cases (s.exch x).best with
  | none => exact Blind.skip s c
  | some result =>
    exact Blind.ite
      (p := fun u => ((s.exch x).settled || (u.link x).mode == .closed || unclosedCell u x) = true) (fun _ _ => Iff.rfl)
      .skip ((blind_settle t x (s.exch x) result).comp
        (f := fun u => u.setExch x { s.exch x with best := some result, settled := true }) fun _ c => ⟨c, rfl⟩) s c

/-! ## The start of a drain (R32, R118) -/

theorem blind_drainStartOfLink (h : HeadNo) : Blind (drainStartOfLink t h x) := by
  unfold drainStartOfLink
  refine .ite (fun _ _ => Iff.rfl) ?_ ?_
  · refine .ite (fun _ _ => Iff.rfl) ((blind_settleAfterRelease t x).comp (blind_unplace t x)) ?_
    exact .ite (fun _ _ => Iff.rfl) (blind_updateRecord x _) (blind_attemptForced x)
  · exact .ite (fun _ _ => Iff.rfl) ((blind_settleAfterRelease t x).comp (blind_dropTarget t x)) .skip

theorem blind_startDrain (h : HeadNo) : Blind (startDrain t h) :=
  ((blind_testDrain t h).comp (.forEach _ fun x => blind_drainStartOfLink t x h)).comp
    (f := fun s => s.setHead h { s.head h with state := .draining, drainTimer := Config.drainFrames })
    fun _ c => ⟨c, rfl⟩

end

/-! ## The head that drains (R32, R34) -/

/-- R34: a drain completion takes its head out of service. -/
theorem off_completeDrain (t : Time) (h : HeadNo) (s : State) : ((completeDrain t h s).head h).state = .off := by
  unfold completeDrain
  dsimp only
  rw [head_raiseHead]
  show ((takeOutOfService h _).head h).state = _
  rw [head_takeOutOfService, if_pos rfl, State.head_setHead_same]

/-- R34: after the test no head drains without a reservation. -/
theorem testDrain_draining {t : Time} {h : HeadNo} {s : State} (k : ((testDrain t h s).head h).state = .draining) :
    naming (testDrain t h s) h ≠ [] := by
  unfold testDrain at k ⊢
  split at k
  · rw [off_completeDrain] at k
    cases k
  · rename_i no
    rw [if_neg no]
    exact fun bare => no ⟨k, bare⟩

/-- The head a drain starts on is DRAINING at 256 frames, or OFF by drain completion where no reservation names it. -/
theorem startDrain_own (t : Time) (h : HeadNo) (s : State) :
    (naming (startDrain t h s) h ≠ [] → ((startDrain t h s).head h).state = .draining ∧
      ((startDrain t h s).head h).drainTimer = 256) ∧
    (naming (startDrain t h s) h = [] → ((startDrain t h s).head h).state = .off ∧
      ((startDrain t h s).head h).drainTimer = 0 ∧ ((startDrain t h s).head h).drainOutcome = .completed ∧
      HeadSeen (startDrain t h s) h ∧ ∀ u, ((startDrain t h s).unit u).serving ≠ some h) := by
  unfold startDrain
  dsimp only
  generalize hv : s.setHead h { s.head h with state := .draining, drainTimer := Config.drainFrames } = v
  have draining : (v.head h).state = .draining ∧ (v.head h).drainTimer = 256 := by
    rw [← hv, State.head_setHead_same]
    exact ⟨rfl, rfl⟩
  generalize hw : forLinks (drainStartOfLink t h) v = w
  have links : HeadStep h v w :=
    hw ▸ (Handling.forLinks (fun x s => handling_drainStartOfLink (fun _ => True) t x s h) v).heads h trivial
  have test := (handling_testDrain (fun _ => True) t h w).heads h trivial
  have step := links.trans test
  refine ⟨fun named => ?_, fun bare => ?_⟩
  · rw [step.stays named]
    exact draining
  · rcases step.record with same | ⟨-, drained, done⟩
    · exact absurd bare (testDrain_draining (by rw [same]; exact draining.1))
    · rw [drained]
      exact ⟨rfl, rfl, rfl, done.seen, done.unserved⟩

/-- The reply that HEAD RETIRE gives is no matter of the drain it starts. -/
theorem startDrain_shown (t : Time) (h : HeadNo) (m : Message) (s : State) :
    (startDrain t h (queueReply m s)).head h = (startDrain t h s).head h := by
  obtain ⟨d, eq⟩ := blind_startDrain t h s (queueReply m s).cp
  have same : queueReply m s = withPort s (queueReply m s).cp := rfl
  rw [same, eq, head_withPort]

/-! ## The command -/

section
variable {head : Byte} {h : HeadNo} (named : headNo head = some h) {s : State}
include named

theorem doHeadRetire_refused (k : (s.head h).state = .absent ∨ (s.head h).state = .fault ∨ (s.head h).state = .draining) :
    doHeadRetire head s = (s, .state .noneGiven) := by
  rcases k with k | k | k <;> simp [doHeadRetire, named, retireHead, k]

theorem doHeadRetire_off (k : (s.head h).state = .off) : doHeadRetire head s =
    (s.setHead h { s.head h with restorePending := false }, .ok (.headRetire .off (s.head h).drainTimer s.now)) := by
  simp [doHeadRetire, named, retireHead, k]

theorem doHeadRetire_on (k : (s.head h).state = .on) : doHeadRetire head s = (startDrain s.now h s,
    .ok (.headRetire ((startDrain s.now h s).head h).state ((startDrain s.now h s).head h).drainTimer s.now)) := by
  simp [doHeadRetire, named, retireHead, k]

end

end Sys2Proof.Machine

open Sys2Proof Sys2Proof.Machine

/-- Settles O21. -/
theorem headRetireIsAnswered : Obligations.HeadRetireIsAnswered := by
  intro tag head s ready
  refine ⟨fun out => ?_, fun h eh => ⟨fun refused => ?_, fun off => ?_, fun on => ?_⟩⟩
  · exact answers_of ready (c := .headRetire head) rfl nofun nofun (by simp [carryOut, doHeadRetire, headNo_none out])
      (by simp [carryOut, doHeadRetire, headNo_none out])
  · have same : ∀ u : State, u = s ∨ (∃ m, u = queueReply m s) → doHeadRetire head u = (u, .state .noneGiven) := by
      rintro u (rfl | ⟨m, rfl⟩) <;> exact doHeadRetire_refused (headNo_eq eh) refused
    exact answers_of ready (c := .headRetire head) rfl nofun nofun (by rw [carryOut, same s (.inl rfl)])
      (by rw [carryOut, same _ (.inr ⟨_, rfl⟩), id])
  · exact answers_of ready (c := .headRetire head) rfl nofun nofun (by rw [carryOut, doHeadRetire_off (headNo_eq eh) off]; rfl)
      (by rw [carryOut, doHeadRetire_off (s := queueReply _ s) (headNo_eq eh) off]; rfl)
  · have next := exec_answered ready tag (c := .headRetire head) rfl nofun nofun
    rw [carryOut, carryOut, doHeadRetire_on (headNo_eq eh) on] at next
    rw [doHeadRetire_on (s := queueReply _ s) (headNo_eq eh) on] at next
    dsimp only at next
    have shown := startDrain_shown s.now h
    have own := startDrain_own s.now h
    have waiting : ∀ m, m ∈ (startDrain s.now h (queueReply m s)).cp.replies := fun m =>
      (handling_startDrain (P := fun _ => False) (h := h) (by simp) s.now (queueReply m s)).port.replied
    generalize hm : Message.reply (HostCmd.headRetire head).kind tag _ = m at next
    refine ⟨startDrain s.now h (queueReply m s), next, ?_, own _⟩
    rw [shown]
    have reply := waiting m
    rw [← hm] at reply ⊢
    exact reply
end

section
/-! SUPPORT. The close of every link with no head draining, as a quiet reset makes it (R77, R171). -/

namespace Sys2Proof.Machine

/-! ## A release with no head draining completes no drain (R34) -/

/-- No head is DRAINING. -/
def Calm (s : State) : Prop := ∀ h, (s.head h).state ≠ .draining

theorem Calm.of_hp {s u : State} (k : Calm s) (hp : u.hp = s.hp) : Calm u := by
  intro h
  unfold State.head
  rw [hp]
  exact k h

theorem testDrain_calm {s : State} (k : Calm s) (t : Time) (h : HeadNo) : testDrain t h s = s :=
  if_neg fun both => k h both.1

/-- From `s` to `u` reservations and cells of the map have changed alone. -/
def Unreserved (s u : State) : Prop := u = { s with fs := { s.fs with resv := u.fs.resv, map := u.fs.map } }

theorem Unreserved.trans {s u v : State} (a : Unreserved s u) (b : Unreserved u v) : Unreserved s v := by
  unfold Unreserved at *
  rw [b, a]

theorem unreserved_released {s : State} (k : Calm s) (t : Time) (x : LinkNo) (p : Place) (r : Held) :
    Unreserved s (released t x s p r) := by
  have calm : Calm (quietCells x p (s.setResv x r)) := k.of_hp (by rw [quietCells_frame]; rfl)
  unfold Unreserved
  rw [released, testDrain_calm calm, quietCells_frame]
  rfl

theorem unreserved_releasePrimary {s : State} (k : Calm s) (t : Time) (x : LinkNo) :
    Unreserved s (releasePrimary t x s) := by
  rw [releasePrimary_eq]
  split
  · exact rfl
  · exact unreserved_released k t x _ _

theorem unreserved_releaseAll {s : State} (k : Calm s) (t : Time) (x : LinkNo) : Unreserved s (releaseAll t x s) := by
  have primary := unreserved_releasePrimary k t x
  have calm : Calm (releasePrimary t x s) := k.of_hp (by rw [primary])
  rw [releaseAll, releaseTarget_eq]
  split
  · exact primary
  · exact primary.trans (unreserved_released calm t x _ _)

/-- R72 with no head draining: what the close of a link leaves of the rest. -/
theorem closeLink_calm {s : State} (k : Calm s) (t : Time) (x : LinkNo) : closeLink t x s =
    { s with
      fs := { s.fs with resv := (closeLink t x s).fs.resv, map := (closeLink t x s).fs.map }
      cov := { s.cov with records := put s.cov.records x none }
      cle := { s.cle with links := (closeLink t x s).cle.links, poolFree := (closeLink t x s).cle.poolFree
                          exch := (closeLink t x s).cle.exch, prevExch := (closeLink t x s).cle.prevExch
                          contributions := (closeLink t x s).cle.contributions, qstop := (closeLink t x s).cle.qstop }
      cp := (closeLink t x s).cp } := by
  have free := unreserved_releaseAll (s := s.setRecord x none) (k.of_hp rfl) t x
  rw [closeLink_eq, recomputeStop_frame]
  generalize releaseAll t x (s.setRecord x none) = u at free
  rw [free]
  rfl

/-! ## One link's turn among the others -/

/-- What closing other links keeps of link `x`, its reservations, its record and its cells. -/
structure Beside (x : LinkNo) (s u : State) : Prop where
  link : u.link x = s.link x
  resv : u.resv x = s.resv x
  record : u.record x = s.record x
  member : u.cle.contributions.getLsbD x.1 = s.cle.contributions.getLsbD x.1
  now : u.fs.now = s.fs.now
  started : u.fs.slotStarted = s.fs.slotStarted
  own : ∀ h sl c, (c = .listen x ∨ ∃ r, c = .crane x r) → (u.cell h sl = c ↔ s.cell h sl = c)
  quiet : ∀ h sl, s.cell h sl = .quiet → u.cell h sl = .quiet

theorem Beside.refl (x : LinkNo) (s : State) : Beside x s s :=
  ⟨rfl, rfl, rfl, rfl, rfl, rfl, fun _ _ _ _ => Iff.rfl, fun _ _ => id⟩

theorem Beside.trans {x : LinkNo} {s u v : State} (a : Beside x s u) (b : Beside x u v) : Beside x s v where
  link := b.link.trans a.link
  resv := b.resv.trans a.resv
  record := b.record.trans a.record
  member := b.member.trans a.member
  now := b.now.trans a.now
  started := b.started.trans a.started
  own h sl c k := (b.own h sl c k).trans (a.own h sl c k)
  quiet h sl k := b.quiet h sl (a.quiet h sl k)

/-- A cell that the release of link `y` turns QUIET is one of link `y` (R21). -/
theorem Released.own {s : State} {y : LinkNo} {h : HeadNo} {sl : SlotNo} (k : Released s y h sl) :
    s.cell h sl = .listen y ∨ ∃ r, s.cell h sl = .crane y r := by
  obtain ⟨p, r, -, rfl, -, crane, rfl | ⟨-, listen⟩⟩ := k
  · exact .inr ⟨r, crane⟩
  · exact .inl listen

theorem calm_closeIfOpen {s : State} (k : Calm s) (t : Time) (x : LinkNo) : Calm (closeIfOpen t x s) := by
  unfold closeIfOpen
  split
  · exact k
  · exact k.of_hp (by rw [closeLink_calm k])

section
variable {s : State} (t : Time)

theorem beside_closeLink (k : Calm s) {x y : LinkNo} (ne : y ≠ x) : Beside x s (closeLink t y s) where
  link := by rw [closeLink_link, if_neg ne]
  resv := by rw [closeLink_resv, if_neg ne]
  record := by
    unfold State.record
    rw [closeLink_calm k]
    exact get_put_other _ _ ne
  member := by
    rw [closeLink_contributions, getLsbD_withMember _ _ _ _ y.2, if_neg fun e => ne (Fin.ext e)]
  now := by rw [closeLink_calm k]
  started := by rw [closeLink_calm k]
  own h sl c mine := by
    by_cases turned : Released s y h sl
    · have after := (closeLink_cell t y s h sl).1 turned
      rcases turned.own with cell | ⟨r, cell⟩ <;> rcases mine with rfl | ⟨r', rfl⟩ <;> simp [after, cell, ne]
    · rw [(closeLink_cell t y s h sl).2 turned]
  quiet h sl was := by
    by_cases turned : Released s y h sl
    · exact (closeLink_cell t y s h sl).1 turned
    · rw [(closeLink_cell t y s h sl).2 turned, was]

theorem beside_closeIfOpen (k : Calm s) {x y : LinkNo} (ne : y ≠ x) : Beside x s (closeIfOpen t y s) := by
  unfold closeIfOpen
  split
  · exact .refl x s
  · exact beside_closeLink t k ne

/-- A CLOSED link holds nothing (R60, R62, R107). -/
def Bare (s : State) (x : LinkNo) : Prop :=
  (s.link x).list = [] ∧ s.resv x = ⟨none, none⟩ ∧ s.record x = none ∧ s.cle.contributions.getLsbD x.1 = false

theorem Beside.bare {x : LinkNo} {u : State} (k : Beside x s u) : Bare u x ↔ Bare s x := by
  unfold Bare
  rw [k.link, k.resv, k.record, k.member]

/-- What closing link `x` leaves of it, open or CLOSED. -/
theorem shut_closeIfOpen {x : LinkNo} (closed : (s.link x).mode = .closed → Bare s x) :
    ((closeIfOpen t x s).link x).mode = .closed ∧ Bare (closeIfOpen t x s) x ∧
      ((closeIfOpen t x s).link x).postedErrors = (s.link x).postedErrors ∧
      ∀ h sl, Released s x h sl → (closeIfOpen t x s).cell h sl = .quiet := by
  unfold closeIfOpen
  split
  · rename_i shut
    refine ⟨shut, closed shut, rfl, fun h sl turned => ?_⟩
    obtain ⟨p, -, held, -⟩ := turned
    simp [(closed shut).2.1] at held
  · refine ⟨?_, ⟨?_, ?_, closeLink_record t x s, ?_⟩, ?_, fun h sl => (closeLink_cell t x s h sl).1⟩
    · rw [closeLink_link, if_pos rfl]; rfl
    · rw [closeLink_link, if_pos rfl]; rfl
    · rw [closeLink_resv, if_pos rfl]
    · rw [closeLink_contributions, getLsbD_withMember _ _ _ _ x.2, if_pos rfl]
    · rw [closeLink_link, if_pos rfl]; rfl

theorem released_beside {x : LinkNo} {u : State} (k : Beside x s u) {h : HeadNo} {sl : SlotNo} (turned : Released s x h sl) :
    Released u x h sl := by
  obtain ⟨p, r, held, slot, waiting, crane, near⟩ := turned
  refine ⟨p, r, ?_, slot, ?_, (k.own _ _ _ (.inr ⟨r, rfl⟩)).mpr crane,
    near.imp id fun both => ⟨both.1, (k.own _ _ _ (.inl rfl)).mpr both.2⟩⟩
  · rw [k.resv]; exact held
  · rw [k.now, k.started]; exact waiting

/-- Every link as closing them all leaves it. -/
theorem shut_closeAll (calm : Calm s) {x : LinkNo} (closed : (s.link x).mode = .closed → Bare s x) :
    ((forLinks (closeIfOpen t) s).link x).mode = .closed ∧ Bare (forLinks (closeIfOpen t) s) x ∧
      ((forLinks (closeIfOpen t) s).link x).postedErrors = (s.link x).postedErrors ∧
      ∀ h sl, Released s x h sl → (forLinks (closeIfOpen t) s).cell h sl = .quiet := by
  obtain ⟨u, before, after⟩ := forLinks_around (R := fun s u => Calm s → Calm u ∧ Beside x s u)
    (fun s k => ⟨k, .refl x s⟩) (fun a b k => ⟨(b (a k).1).1, (a k).2.trans (b (a k).1).2⟩) (f := closeIfOpen t) x
    (fun y ne s k => ⟨calm_closeIfOpen k t y, beside_closeIfOpen t k ne⟩) s
  obtain ⟨calmU, beside⟩ := before calm
  obtain ⟨-, rest⟩ := after (calm_closeIfOpen calmU t x)
  obtain ⟨mode, bare, errors, turned⟩ := shut_closeIfOpen t (s := u) (x := x) (by
    rw [beside.link, beside.bare]
    exact closed)
  refine ⟨by rw [rest.link, mode], rest.bare.mpr bare, by rw [rest.link, errors, beside.link], fun h sl k => ?_⟩
  exact rest.quiet h sl (turned h sl (released_beside beside k))

/-! ## The cells that stand, and the rest -/

/-- No release makes a cell one that a later release turns QUIET. -/
theorem released_closeIfOpen (k : Calm s) {x y : LinkNo} {h : HeadNo} {sl : SlotNo}
    (turned : Released (closeIfOpen t y s) x h sl) : Released s x h sl := by
  unfold closeIfOpen at turned
  split at turned
  · exact turned
  · have was : ∀ g tl c, c ≠ .quiet → (closeLink t y s).cell g tl = c → s.cell g tl = c := by
      intro g tl c ne eq
      by_cases q : Released s y g tl
      · rw [(closeLink_cell t y s g tl).1 q] at eq
        exact absurd eq.symm ne
      · rw [← (closeLink_cell t y s g tl).2 q, eq]
    obtain ⟨p, r, held, slot, waiting, crane, near⟩ := turned
    refine ⟨p, r, ?_, slot, ?_, was _ _ _ (by simp) crane, near.imp id fun both => ⟨both.1, was _ _ _ (by simp) both.2⟩⟩
    · rw [closeLink_resv] at held
      split at held
      · simp at held
      · exact held
    · rw [closeLink_calm k] at waiting
      exact waiting

/-- A cell of no reservation stands (R23). -/
theorem cell_closeAll (calm : Calm s) {h : HeadNo} {sl : SlotNo} (free : ∀ x, ¬ Released s x h sl) :
    (forLinks (closeIfOpen t) s).cell h sl = s.cell h sl := by
  refine (forLinks_keeps (f := closeIfOpen t)
    (P := fun u => Calm u ∧ (∀ x, ¬ Released u x h sl) ∧ u.cell h sl = s.cell h sl) (fun y u k => ?_)
    ⟨calm, free, rfl⟩).2.2
  obtain ⟨calmU, freeU, same⟩ := k
  refine ⟨calm_closeIfOpen calmU t y, fun x turned => freeU x (released_closeIfOpen t calmU turned), ?_⟩
  unfold closeIfOpen
  split
  · exact same
  · rw [(closeLink_cell t y u h sl).2 (freeU y), same]

/-- What closing the links leaves of the rest with no head draining. -/
def OnlyLinks (s u : State) : Prop := u = { s with
  fs := { s.fs with resv := u.fs.resv, map := u.fs.map }
  cov := { s.cov with records := u.cov.records }
  cle := { s.cle with links := u.cle.links, poolFree := u.cle.poolFree, exch := u.cle.exch, prevExch := u.cle.prevExch
                      contributions := u.cle.contributions, qstop := u.cle.qstop }
  cp := u.cp }

theorem OnlyLinks.trans {s u v : State} (a : OnlyLinks s u) (b : OnlyLinks u v) : OnlyLinks s v := by
  unfold OnlyLinks at *
  rw [b, a]

theorem onlyLinks_closeIfOpen (k : Calm s) (x : LinkNo) : OnlyLinks s (closeIfOpen t x s) := by
  unfold closeIfOpen
  split
  · exact rfl
  · unfold OnlyLinks
    conv_lhs => rw [closeLink_calm k]
    rw [closeLink_calm k]

theorem onlyLinks_closeAll (calm : Calm s) : OnlyLinks s (forLinks (closeIfOpen t) s) :=
  (forLinks_keeps (f := closeIfOpen t) (P := fun u => Calm u ∧ OnlyLinks s u)
    (fun x _ k => ⟨calm_closeIfOpen k.1 t x, k.2.trans (onlyLinks_closeIfOpen t k.1 x)⟩) ⟨calm, rfl⟩).2

/-! ## The pool (R81) -/

/-- The entries of a list that a close returns leave its link's list (R72, R81). -/
theorem listTotal_closeLink (x : LinkNo) : listTotal (closeLink t x s) + (s.link x).list.length = listTotal s := by
  unfold listTotal
  rw [← Fin.sum_univ_def, ← Fin.sum_univ_def, ← Finset.add_sum_erase _ _ (Finset.mem_univ x),
    ← Finset.add_sum_erase Finset.univ (fun y => (s.link y).list.length) (Finset.mem_univ x)]
  have own : ((closeLink t x s).link x).list = [] := by rw [closeLink_link, if_pos rfl]; rfl
  have others : ∀ y ∈ Finset.univ.erase x, ((closeLink t x s).link y).list.length = (s.link y).list.length := by
    intro y mem
    rw [closeLink_link, if_neg (Finset.ne_of_mem_erase mem).symm]
  rw [Finset.sum_congr rfl others, own]
  simp [Nat.add_comm]

theorem pool_closeAll : (forLinks (closeIfOpen t) s).cle.poolFree + listTotal (forLinks (closeIfOpen t) s) =
    s.cle.poolFree + listTotal s := by
  refine forLinks_keeps (f := closeIfOpen t) (P := fun u => u.cle.poolFree + listTotal u = s.cle.poolFree + listTotal s)
    (fun x u k => ?_) rfl
  unfold closeIfOpen
  split
  · exact k
  · have total := listTotal_closeLink t (s := u) x
    rw [closeLink_poolFree]
    omega

theorem listTotal_empty (k : ∀ x, (s.link x).list = []) : listTotal s = 0 := by
  simp [listTotal, k]

end

end Sys2Proof.Machine
end

section
/-! SUPPORT. What a quiet reset leaves of the Control Port (R168, R171), and the reset in its parts. -/

namespace Sys2Proof.Machine

/-! ## A raise while the outbound queue has room (R165, R168) -/

theorem offerNotice_roomy (m : Message) {s : State} (room : (outbound s).length < 64) :
    offerNotice m s = { s with cp := { s.cp with notices := s.cp.notices ++ [m] } } :=
  if_pos (decide_eq_true room)

theorem raise_roomy (t : Time) (f : Flag) (o : Byte) {s : State} (room : (outbound s).length < 64) :
    (raise t f o s).cp.noticeDrops = s.cp.noticeDrops ∧ ((raise t f o s).cp.notices = s.cp.notices ∨
      ∃ flags, (raise t f o s).cp.notices = s.cp.notices ++ [.event f o flags t]) := by
  unfold raise
  split
  · exact ⟨rfl, .inl rfl⟩
  · dsimp only
    split
    · rw [offerNotice_roomy]
      · exact ⟨rfl, .inr ⟨_, rfl⟩⟩
      · exact room
    · exact ⟨rfl, .inl rfl⟩

/-! ## The fall of quay stop (R107) -/

theorem withMember_false_zero (i : Nat) : withMember 0#24 i false = 0#24 := by simp [withMember]

/-- With no head draining the close of a link raises QUAY-STOP alone, and only as quay stop changes (R72, R107). -/
theorem closeLink_port {s : State} (k : Calm s) (t : Time) (x : LinkNo) :
    (closeLink t x s).cle.qstop = (withMember s.cle.contributions x.1 false != 0#24) ∧
      ((closeLink t x s).cle.qstop = s.cle.qstop → (closeLink t x s).cp = s.cp) ∧
      ∃ u, u.cp = s.cp ∧ ((closeLink t x s).cle.qstop ≠ s.cle.qstop →
        (closeLink t x s).cp = (raisePlain t .quayStop u).cp) := by
  have free := unreserved_releaseAll (s := s.setRecord x none) (k.of_hp rfl) t x
  rw [closeLink_eq]
  generalize releaseAll t x (s.setRecord x none) = v at free
  have shut : contributes (clearLink x v) x = false := by simp [contributes, clearLink, State.link, closedRecord]
  have set : (clearLink x v).cle.contributions = s.cle.contributions := by rw [free]; rfl
  have pin : (clearLink x v).cle.qstop = s.cle.qstop := by rw [free]; rfl
  have cp : (clearLink x v).cp = s.cp := by rw [free]; rfl
  have level : (recomputeStop t x (clearLink x v)).cle.qstop = (withMember s.cle.contributions x.1 false != 0#24) := by
    rw [recomputeStop_frame, shut, set]
  refine ⟨level, fun same => ?_, { clearLink x v with cle := { (clearLink x v).cle with
    contributions := withMember s.cle.contributions x.1 false
    qstop := withMember s.cle.contributions x.1 false != 0#24 } }, cp, fun differs => ?_⟩
  · rw [level, ← pin] at same
    unfold recomputeStop
    dsimp only
    rw [shut, set, if_pos same]
    exact cp
  · rw [level, ← pin] at differs
    unfold recomputeStop
    dsimp only
    rw [shut, set, if_neg differs]

/-- What a quiet reset's steps have made of the Control Port, from `s` to `u`, with the reply `m`: the flags raised since
the clear are RESTARTED, and QUAY-STOP where quay stop has fallen (R168, R171). -/
structure QuietPort (m : Message) (s u : State) : Prop where
  cp : u.cp = { s.cp with replies := [m], notices := u.cp.notices, flags := u.cp.flags, craneSet := 0#24
                          listLowSet := 0#24, headSet := 0#12, planDetail := .none }
  pin : u.cle.qstop = (u.cle.contributions != 0#24)
  falls : u.cle.qstop = true → s.cle.qstop = true
  flags : ∀ f, flagSet u f = decide (f = .restarted ∨ f = .quayStop ∧ s.cle.qstop = true ∧ u.cle.qstop = false)
  notices : ∀ n ∈ u.cp.notices, ∃ f o flags, (f = .restarted ∨ f = .quayStop) ∧ n = .event f o flags s.fs.now
  few : u.cp.notices.length ≤ if u.cle.qstop = s.cle.qstop then 1 else 2

/-- A raise after the clear, from a state whose outbound queue holds the reply and at most one notice. -/
theorem quietPort_raise {m : Message} {s u : State} {f : Flag}
    (cp : u.cp = { s.cp with replies := [m], notices := u.cp.notices, flags := u.cp.flags, craneSet := 0#24
                             listLowSet := 0#24, headSet := 0#12, planDetail := .none })
    (few : u.cp.notices.length ≤ 1) {v : State} (hv : v.cp = (raisePlain s.fs.now f u).cp) :
    v.cp = { s.cp with replies := [m], notices := v.cp.notices, flags := v.cp.flags, craneSet := 0#24
                       listLowSet := 0#24, headSet := 0#12, planDetail := .none } ∧
      (v.cp.notices = u.cp.notices ∨ ∃ flags, v.cp.notices = u.cp.notices ++ [.event f noObject flags s.fs.now]) ∧
      ∀ g, flagSet v g = (flagSet u g || decide (f = g)) := by
  have room : (outbound u).length < 64 := by
    rw [outbound, cp]
    simp only [List.length_append, List.length_singleton]
    omega
  obtain ⟨drops, notices⟩ := raise_roomy s.fs.now f noObject room
  refine ⟨?_, by rw [hv]; exact notices, fun g => ?_⟩
  · rw [hv, raisePlain, raise_cp, drops, cp]
  · rw [← flagSet_raise s.fs.now f g noObject u]
    unfold flagSet
    rw [hv, raisePlain]

theorem quietPort_closeIfOpen {m : Message} {s u : State} (calm : Calm u) (k : QuietPort m s u) (x : LinkNo) :
    QuietPort m s (closeIfOpen s.fs.now x u) := by
  unfold closeIfOpen
  split
  · exact k
  obtain ⟨level, same, w, wcp, differs⟩ := closeLink_port calm s.fs.now x
  have set := closeLink_contributions s.fs.now x u
  generalize closeLink s.fs.now x u = v at *
  have pin : v.cle.qstop = (v.cle.contributions != 0#24) := by rw [level, set]
  by_cases stands : v.cle.qstop = u.cle.qstop
  · have cp := same stands
    refine ⟨?_, pin, fun on => k.falls (stands ▸ on), fun f => ?_, ?_, ?_⟩
    · rw [cp]; exact k.cp
    · rw [stands, ← k.flags f]
      unfold flagSet
      rw [cp]
    · rw [cp]; exact k.notices
    · rw [cp, stands]; exact k.few
  · have on : u.cle.qstop = true := by
      by_contra off
      rw [Bool.not_eq_true] at off
      have none : u.cle.contributions = 0#24 := by simpa [off] using k.pin
      rw [level, none, withMember_false_zero, off] at stands
      simp at stands
    have off : v.cle.qstop = false := by simpa [on] using stands
    have was := k.falls on
    have few : w.cp.notices.length ≤ 1 := by
      have := k.few
      rw [on, was, if_pos rfl] at this
      rw [wcp]
      exact this
    obtain ⟨cp, notices, flags⟩ := quietPort_raise (u := w) (by rw [wcp]; exact k.cp) few (differs stands)
    refine ⟨cp, pin, fun k => ?_, fun f => ?_, fun n mem => ?_, ?_⟩
    · rw [off] at k; cases k
    · have before : flagSet w f = flagSet u f := by unfold flagSet; rw [wcp]
      rw [flags, before, k.flags, on, was, off]
      cases f <;> decide
    · rcases notices with eq | ⟨raised, eq⟩
      · rw [eq, wcp] at mem
        exact k.notices n mem
      · rw [eq, wcp] at mem
        rcases List.mem_append.mp mem with old | new
        · exact k.notices n old
        · exact ⟨_, _, _, .inr rfl, List.mem_singleton.mp new⟩
    · rw [off, was, if_neg (by decide)]
      rcases notices with eq | ⟨raised, eq⟩
      · rw [eq]; omega
      · rw [eq, List.length_append, List.length_singleton]; omega

/-! ## The reset in its parts -/

/-- The machine before its links are closed: the queue holds the reply, RESTARTED is raised, the staged plan is a copy of
the active plan and no head drains (R171, R14, R43). -/
def quietBegun (m : Message) (s : State) : State :=
  quietHeads (quietPlans (raisePlain s.fs.now .restarted (clearFlags (quietQueue m s))))

/-- Every link closed from there (R77). -/
def quietClosed (m : Message) (s : State) : State := forLinks (closeIfOpen s.fs.now) (quietBegun m s)

theorem quietBegun_frame (m : Message) (s : State) : quietBegun m s =
    { s with fs := { s.fs with staged := s.fs.active, ready := false }
             hp := { s.hp with heads := s.hp.heads.map HeadRecord.quietReset }, cp := (quietBegun m s).cp } := by
  unfold quietBegun
  rw [raisePlain, raise_port]
  rfl

theorem quietBegun_head (m : Message) (s : State) (h : HeadNo) : (quietBegun m s).head h = (s.head h).quietReset := by
  rw [quietBegun_frame]
  simp [State.head, Vector.get_eq_getElem]

theorem calm_quietBegun (m : Message) (s : State) : Calm (quietBegun m s) := by
  intro h
  rw [quietBegun_head, HeadRecord.quietReset]
  split
  · simp
  · assumption

theorem quietPort_quietBegun (m : Message) {s : State} (law : StopLaw s) : QuietPort m s (quietBegun m s) := by
  have begun : (quietBegun m s).cp = (raisePlain s.fs.now .restarted (clearFlags (quietQueue m s))).cp := rfl
  obtain ⟨cp, notices, flags⟩ := quietPort_raise (m := m) (s := s) (u := clearFlags (quietQueue m s)) rfl
    (by simp [clearFlags, quietQueue]) begun
  have stop : (quietBegun m s).cle = s.cle := by rw [quietBegun_frame]
  have pin : s.cle.qstop = (s.cle.contributions != 0#24) := by
    rw [law.pin, level_iff]
    simp only [law.member]
  refine ⟨cp, by rw [stop]; exact pin, by rw [stop]; exact id, fun f => ?_, fun n mem => ?_, ?_⟩
  · have clear : flagSet (clearFlags (quietQueue m s)) f = false := by simp [flagSet, clearFlags]
    rw [flags, clear, stop]
    cases s.cle.qstop <;> cases f <;> decide
  · rcases notices with eq | ⟨raised, eq⟩ <;> rw [eq] at mem
    · simp [clearFlags, quietQueue] at mem
    · rcases List.mem_append.mp mem with old | new
      · simp [clearFlags, quietQueue] at old
      · exact ⟨_, _, _, .inl rfl, List.mem_singleton.mp new⟩
  · rw [stop, if_pos rfl]
    rcases notices with eq | ⟨raised, eq⟩ <;> rw [eq] <;> simp [clearFlags, quietQueue]

theorem quietPort_quietClosed (m : Message) {s : State} (law : StopLaw s) : QuietPort m s (quietClosed m s) :=
  (forLinks_keeps (f := closeIfOpen s.fs.now) (P := fun u => Calm u ∧ QuietPort m s u)
    (fun x _ k => ⟨calm_closeIfOpen k.1 _ x, quietPort_closeIfOpen k.1 k.2 x⟩)
    ⟨calm_quietBegun m s, quietPort_quietBegun m law⟩).2

/-- What is left once the links are closed (R77, R157). -/
def quietDone (u : State) : State :=
  { u with cle := { u.cle with hostHold := false, links := u.cle.links.map fun l => { l with pendingAlarms := 0 } }
           rep := { u.rep with acks := [], reports := [], alarms := [] } }

theorem quietReports_quietLinks (u : State) :
    quietReports (quietLinks u) = quietDone (forLinks (closeIfOpen u.now) u) := by
  unfold quietReports quietLinks
  generalize forLinks (closeIfOpen u.now) u = v
  rfl

theorem quietBlocks_eq (m : Message) (s : State) : quietBlocks (quietQueue m s) = quietDone (quietClosed m s) := by
  have now : (quietBegun m s).now = s.fs.now := by
    unfold State.now
    rw [quietBegun_frame]
  have begun : quietBlocks (quietQueue m s) = quietReports (quietLinks (quietBegun m s)) := rfl
  rw [begun, quietReports_quietLinks, now, quietClosed]

theorem link_quietDone (u : State) (x : LinkNo) : (quietDone u).link x = { u.link x with pendingAlarms := 0 } := by
  simp [quietDone, State.link, Vector.get_eq_getElem]

/-- A CLOSED link holds nothing where the laws of R62, R81 and R107 hold. -/
theorem bare_of_closed {s : State} (held : HeldLaw s) (pool : PoolLaw s) (stop : StopLaw s) {x : LinkNo}
    (closed : (s.link x).mode = .closed) : Bare s x := by
  have none := (held x).closed.mp closed
  refine ⟨pool.closed x closed, (held x).empty none, none, ?_⟩
  rw [stop.member]
  simp [contributes, closed]

/-- Every link, as the reset leaves it (R77). -/
theorem quietClosed_link (m : Message) {s : State} (held : HeldLaw s) (pool : PoolLaw s) (stop : StopLaw s) (x : LinkNo) :
    ((quietClosed m s).link x).mode = .closed ∧ Bare (quietClosed m s) x ∧
      ((quietClosed m s).link x).postedErrors = (s.link x).postedErrors ∧
      ∀ h sl, Released s x h sl → (quietClosed m s).cell h sl = .quiet := by
  have frame := quietBegun_frame m s
  have beside : Beside x s (quietBegun m s) := by
    refine ⟨?_, ?_, ?_, ?_, ?_, ?_, fun h sl c _ => ?_, fun h sl k => ?_⟩
    all_goals rw [frame]
    · rfl
    · rfl
    · rfl
    · exact Iff.rfl
    · exact k
  obtain ⟨mode, bare, errors, turned⟩ := shut_closeAll s.fs.now (calm_quietBegun m s) (x := x) (by
    rw [beside.link, beside.bare]
    exact bare_of_closed held pool stop)
  exact ⟨mode, bare, errors.trans (congrArg Link.postedErrors beside.link),
    fun h sl k => turned h sl (released_beside beside k)⟩

/-- What the reset leaves of the rest (R14, R43). -/
theorem quietClosed_rest (m : Message) (s : State) :
    (quietClosed m s).fs = { s.fs with staged := s.fs.active, ready := false, resv := (quietClosed m s).fs.resv
                                       map := (quietClosed m s).fs.map } ∧
      (∀ h, (quietClosed m s).head h = (s.head h).quietReset) ∧ (quietClosed m s).cov.settings = s.cov.settings ∧
      (quietClosed m s).reg = s.reg ∧ (quietClosed m s).rep = s.rep ∧ (quietClosed m s).holdin = s.holdin := by
  have frame : OnlyLinks (quietBegun m s) (quietClosed m s) := onlyLinks_closeAll s.fs.now (calm_quietBegun m s)
  have head := quietBegun_head m s
  have begun := quietBegun_frame m s
  generalize quietClosed m s = u at frame
  generalize quietBegun m s = v at frame begun head
  refine ⟨?_, fun h => ?_, ?_, ?_, ?_, ?_⟩
  · rw [frame, begun]
  · rw [← head, frame]
    rfl
  · rw [frame, begun]
  · rw [frame, begun]
  · rw [frame, begun]
  · rw [frame, begun]

theorem quietClosed_cell (m : Message) {s : State} {h : HeadNo} {sl : SlotNo} (free : ∀ x, ¬ Released s x h sl) :
    (quietClosed m s).cell h sl = s.cell h sl := by
  have frame := quietBegun_frame m s
  have cell : (quietBegun m s).cell h sl = s.cell h sl := by rw [frame]; rfl
  rw [← cell]
  refine cell_closeAll s.fs.now (calm_quietBegun m s) fun x turned => free x ?_
  rw [frame] at turned
  exact turned

/-- R81: every entry is back in the pool. -/
theorem quietClosed_pool (m : Message) {s : State} (held : HeldLaw s) (pool : PoolLaw s) (stop : StopLaw s) :
    (quietClosed m s).cle.poolFree = 512 := by
  have kept : (quietClosed m s).cle.poolFree + listTotal (quietClosed m s) =
      (quietBegun m s).cle.poolFree + listTotal (quietBegun m s) := by
    unfold quietClosed
    exact pool_closeAll s.fs.now
  have begun : (quietBegun m s).cle.poolFree + listTotal (quietBegun m s) = 512 := by
    have links : (quietBegun m s).cle = s.cle := by rw [quietBegun_frame]
    have total : listTotal (quietBegun m s) = listTotal s := by
      unfold listTotal State.link
      rw [links]
    rw [links, total]
    exact pool.total
  rw [begun, listTotal_empty fun x => (quietClosed_link m held pool stop x).2.1.1, Nat.add_zero] at kept
  exact kept

/-- R107: no link contributes, and quay stop is off. -/
theorem quietClosed_stop (m : Message) {s : State} (held : HeldLaw s) (pool : PoolLaw s) (stop : StopLaw s) :
    (quietClosed m s).cle.contributions = 0#24 ∧ (quietClosed m s).cle.qstop = false := by
  have none : (quietClosed m s).cle.contributions = 0#24 := by
    refine BitVec.eq_of_getLsbD_eq fun i hi => ?_
    rw [BitVec.getLsbD_zero]
    exact (quietClosed_link m held pool stop ⟨i, hi⟩).2.1.2.2.2
  refine ⟨none, ?_⟩
  rw [(quietPort_quietClosed m stop).pin, none]
  rfl

theorem table_nil {s : State} (k : ∀ x, s.resv x = ⟨none, none⟩) : table s = [] := by
  simp [table, linkReservations, k]

end Sys2Proof.Machine

open Sys2Proof Sys2Proof.Machine

/-- Settles O39, from the parts of the reset. -/
theorem quietResetResets : Obligations.QuietResetResets := by
  intro tag s ready held pool stop
  have next : exec (.quietReset tag) s =
      .next (quietDone (quietClosed (.reply 0x04#8 tag (.ok .empty)) s)) := by
    rw [← quietBlocks_eq]
    exact exec_ready ready tag (c := .quietReset) rfl
  refine ⟨_, next, ?_⟩
  generalize Message.reply 0x04#8 tag (.ok .empty) = m
  have links := quietClosed_link m held pool stop
  have port := quietPort_quietClosed m stop
  have poolFree := quietClosed_pool m held pool stop
  obtain ⟨contributions, qstop⟩ := quietClosed_stop m held pool stop
  obtain ⟨fs, heads, settings, reg, rep, holdin⟩ := quietClosed_rest m s
  have stands := fun h sl => quietClosed_cell m (s := s) (h := h) (sl := sl)
  generalize quietClosed m s = u at *
  have cp := port.cp
  refine ⟨(congrArg ControlPort.replies cp :), port.notices, fun f => ?_, (congrArg ControlPort.craneSet cp :),
    (congrArg ControlPort.listLowSet cp :), (congrArg ControlPort.headSet cp :), (congrArg ControlPort.planDetail cp :),
    (congrArg ControlPort.rx cp :), (congrArg ControlPort.inbound cp :).trans ready.noneWaiting,
    (congrArg ControlPort.sending cp :), (congrArg ControlPort.enables cp :), (congrArg ControlPort.frameErrors cp :),
    (congrArg ControlPort.overruns cp :), (congrArg ControlPort.malformed cp :), (congrArg ControlPort.noticeDrops cp :),
    (congrArg FrameScheduler.now fs :), (congrArg FrameScheduler.slotStarted fs :), (congrArg FrameScheduler.active fs :),
    (congrArg FrameScheduler.staged fs :), (congrArg FrameScheduler.ready fs :), (congrArg FrameScheduler.last fs :),
    (congrArg FrameScheduler.beacon fs :), table_nil fun x => (links x).2.1.2.1,
    fun h sl => ⟨fun ⟨x, k⟩ => (links x).2.2.2 h sl k, stands h sl⟩, heads, fun x => ?_, poolFree, rfl, contributions,
    qstop, settings, reg, ?_, holdin⟩
  · have flag := port.flags f
    rw [qstop] at flag
    simp only [and_true] at flag
    exact flag
  · obtain ⟨mode, ⟨list, -, record, -⟩, errors, -⟩ := links x
    rw [link_quietDone]
    exact ⟨mode, list, rfl, record, errors⟩
  · rw [← rep]
    rfl
end

section
/-! SUPPORT. The filter of a measurement (R49): its step as a move toward 16 L that never passes it. -/

namespace Sys2Proof.Machine

/-- R49: the move a measurement makes at distance `d` from 16 L with filter constant `k`. -/
def filterMove (k : Nat) (d : Int) : Int := if d.tdiv (2 ^ k) = 0 then d.sign else d.tdiv (2 ^ k)

theorem filterMove_neg (k : Nat) (d : Int) : filterMove k (-d) = -filterMove k d := by
  unfold filterMove
  rw [Int.neg_tdiv, Int.sign_neg]
  split <;> split <;> omega

/-- The move goes up to the distance from below. -/
theorem filterMove_up (k : Nat) {d : Int} (h : 0 ≤ d) : 0 ≤ filterMove k d ∧ filterMove k d ≤ d := by
  have low : 0 ≤ d.tdiv (2 ^ k) := Int.tdiv_nonneg h (by positivity)
  have high : d.tdiv (2 ^ k) ≤ d := Int.tdiv_le_self _ h
  unfold filterMove
  split
  · rcases h.eq_or_lt with zero | pos
    · simp [← zero]
    · rw [Int.sign_eq_one_of_pos pos]
      omega
  · exact ⟨low, high⟩

/-- The move goes down to the distance from above. -/
theorem filterMove_down (k : Nat) {d : Int} (h : d ≤ 0) : d ≤ filterMove k d ∧ filterMove k d ≤ 0 := by
  have up := filterMove_up k (d := -d) (by omega)
  rw [filterMove_neg] at up
  omega

/-- R49: a valid quality makes one move. -/
theorem filterStep_some (k L F : Nat) : ((filterStep k L (some F) : Nat) : Int) = F + filterMove k (16 * (L : Int) - F) := by
  have between : 0 ≤ (F : Int) + filterMove k (16 * (L : Int) - F) := by
    rcases le_total 0 (16 * (L : Int) - F) with h | h
    · have := filterMove_up k h
      omega
    · have := filterMove_down k h
      omega
  rw [← Int.toNat_of_nonneg between]
  congr 1
  unfold filterStep filterMove
  dsimp only
  split
  · split
    · rw [Int.sign_eq_one_of_pos ‹_›]
    · split
      · rw [Int.sign_eq_neg_one_of_neg ‹_›]
      · rw [Int.sign_eq_zero_iff_zero.mpr (by omega)]
  · rfl

/-- From below a measurement comes no further than 16 L. -/
theorem filterStep_up (k : Nat) {L F : Nat} (h : F ≤ 16 * L) :
    F ≤ filterStep k L (some F) ∧ filterStep k L (some F) ≤ 16 * L := by
  have step := filterStep_some k L F
  have move := filterMove_up k (d := 16 * (L : Int) - F) (by omega)
  omega

/-- From above a measurement comes no further than 16 L. -/
theorem filterStep_down (k : Nat) {L F : Nat} (h : 16 * L ≤ F) :
    16 * L ≤ filterStep k L (some F) ∧ filterStep k L (some F) ≤ F := by
  have step := filterStep_some k L F
  have move := filterMove_down k (d := 16 * (L : Int) - F) (by omega)
  omega

/-- R47: every filtered quality lies in 0..4080. -/
theorem filterStep_le (k : Nat) {L : Nat} (hL : L ≤ 255) {q : Option Nat} (hq : ∀ F, q = some F → F ≤ 4080) :
    filterStep k L q ≤ 4080 := by
  cases q with
  | none =>
    show 16 * L ≤ 4080
    omega
  | some F =>
    have := hq F rfl
    rcases le_total F (16 * L) with h | h
    · have := filterStep_up k h
      omega
    · have := filterStep_down k h
      omega

end Sys2Proof.Machine

open Sys2Proof Sys2Proof.Machine

/-- Settles O60, from the bounds of one move. -/
theorem measurementFilters : Obligations.MeasurementFilters := by
  intro k L F _ hL hF
  refine ⟨rfl, filterStep_some k L F, filterStep_le k hL ?_, ?_, filterStep_up k, filterStep_down k⟩
  · rintro _ ⟨⟩
    exact hF
  · have := filterStep_up k (le_refl (16 * L))
    omega
end

section
/-! SUPPORT. What the handling of crane links, heads and windows leaves of fault scores and qualities (R47, R101): one
relation between the state before and after, kept by every operation. -/

namespace Sys2Proof.Machine

/-! ## The relation -/

/-- A fault score lies in 0..255 and agrees with its health (R101). -/
def Scored (l : Link) : Prop := l.score ≤ 255 ∧ ScoreFits l

/-- From `s` to `u` fault scores in agreement with their health, and qualities in 0..4080, have stayed so. -/
structure Graded (s u : State) : Prop where
  score : ∀ x, Scored (s.link x) → Scored (u.link x)
  quality : ∀ x, (∀ w, s.record x = some w → QualityFits w) → ∀ w, u.record x = some w → QualityFits w

theorem Graded.scoreLaw {s u : State} (k : Graded s u) (law : ScoreLaw s) : ScoreLaw u := fun x => k.score x (law x)

theorem Graded.qualityLaw {s u : State} (k : Graded s u) (law : QualityLaw s) : QualityLaw u :=
  fun x => k.quality x (law x)

namespace Graded

variable {s u v : State}

theorem refl (s : State) : Graded s s := ⟨fun _ => id, fun _ => id⟩

theorem trans (a : Graded s u) (b : Graded u v) : Graded s v :=
  ⟨fun x k => b.score x (a.score x k), fun x k => b.quality x (a.quality x k)⟩

/-- What touches neither link records nor handover records. -/
theorem of_same (links : u.cle.links = s.cle.links) (records : u.cov.records = s.cov.records) : Graded s u where
  score x := by unfold State.link; rw [links]; exact id
  quality x := by unfold State.record; rw [records]; exact id

theorem forEach {α : Type} {f : α → State → State} (l : List α) (k : ∀ a s, Graded s (f a s)) (s : State) :
    Graded s (forEach l f s) :=
  forEach_keeps (P := Graded s) l (fun a _ u h => h.trans (k a u)) (.refl s)

theorem forLinks {f : LinkNo → State → State} (k : ∀ x s, Graded s (f x s)) (s : State) : Graded s (forLinks f s) :=
  forEach _ k s

theorem forHeads {f : HeadNo → State → State} (k : ∀ h s, Graded s (f h s)) (s : State) : Graded s (forHeads f s) :=
  forEach _ k s

/-- A part of a larger event, which acts only where it is due (log entry 8). -/
theorem due {c : Prop} [Decidable c] (k : Graded s u) : Graded s (if c then u else s) := by
  split
  · exact k
  · exact .refl s

end Graded

/-! ## Qualities (R47, R50, R51) -/

theorem QualityFits.quality {w : Handover} (k : QualityFits w) {h : HeadNo} {q : Nat} (e : w.quality h = some q) :
    q ≤ 4080 := by
  obtain ⟨c, -, ⟨-, centre⟩ | ⟨-, left⟩ | ⟨-, right⟩⟩ := hasQuality_iff.mpr e
  · exact k q (.inr (.inl centre))
  · exact k q (.inl left)
  · exact k q (.inr (.inr right))

theorem qualityFits_invalidate (h : HeadNo) {w : Handover} (k : QualityFits w) : QualityFits (w.invalidate h) := by
  unfold Handover.invalidate
  split
  · exact k
  · split
    · exact fun q e => k q (by simp at e; tauto)
    · split
      · exact fun q e => k q (by simp at e; tauto)
      · split
        · exact fun q e => k q (by simp at e; tauto)
        · exact k

theorem qualityFits_recentre (n : HeadNo) {w : Handover} (k : QualityFits w) : QualityFits (w.recentre n) := by
  rintro q (left | centre | right)
  · obtain ⟨h, -, e⟩ := Option.bind_eq_some_iff.mp left
    exact k.quality e
  · exact k.quality centre
  · obtain ⟨h, -, e⟩ := Option.bind_eq_some_iff.mp right
    exact k.quality e

theorem qualityFits_emptyWindow (w : Handover) : QualityFits w.emptyWindow := by
  rintro q (e | e | e) <;> cases e

theorem qualityFits_setQuality (h : HeadNo) {q : Nat} (hq : q ≤ 4080) {w : Handover} (k : QualityFits w) :
    QualityFits (w.setQuality h (some q)) := by
  have new : ∀ p, some q = some p → p ≤ 4080 := by
    rintro _ ⟨⟩
    exact hq
  unfold Handover.setQuality
  split
  · exact k
  · split
    · exact fun p e => e.elim (k p <| .inl ·) (·.elim (new p) (k p <| .inr <| .inr ·))
    · split
      · exact fun p e => e.elim (new p) (k p <| .inr ·)
      · split
        · exact fun p e => e.elim (k p <| .inl ·) (·.elim (k p <| .inr <| .inl ·) (new p))
        · exact k

/-- R47, R49: a measurement of a level code, which is a byte. -/
theorem qualityFits_measure (f : Nat) (h : HeadNo) {level : Nat} (byte : level ≤ 255) {w : Handover} (k : QualityFits w) :
    QualityFits (w.measure f h level) :=
  qualityFits_setQuality h (filterStep_le f byte fun _ e => k.quality e) k

theorem measuredLevel_le {e : RecordEntry} {level : Nat} (k : measuredLevel e = some level) : level ≤ 255 := by
  unfold measuredLevel at k
  split at k <;> cases k
  · omega
  · rename_i r _
    have := r.level.isLt
    omega

/-! ## Plain updates -/

section
variable (s : State)

theorem graded_setLink {x : LinkNo} {l : Link} (k : Scored (s.link x) → Scored l) : Graded s (s.setLink x l) where
  score y := by
    rw [State.link_setLink]
    split
    · subst y; exact k
    · exact id
  quality _ := id

/-- One link record is written, and no handover record. -/
theorem Graded.of_link {s u : State} {x : LinkNo} {l : Link} (links : u.cle.links = put s.cle.links x l)
    (records : u.cov.records = s.cov.records) (k : Scored (s.link x) → Scored l) : Graded s u :=
  (graded_setLink s k).trans (.of_same links records)

/-- An update of a link record, by default one that leaves score and health. -/
theorem graded_updateLink (x : LinkNo) (f : Link → Link)
    (k : Scored (s.link x) → Scored (f (s.link x)) := by exact id) : Graded s (updateLink x f s) := graded_setLink s k

theorem graded_setRecord (x : LinkNo) {w : Option Handover}
    (k : (∀ v, s.record x = some v → QualityFits v) → ∀ v, w = some v → QualityFits v) : Graded s (s.setRecord x w) where
  score _ := id
  quality y := by
    rw [State.record_setRecord]
    split
    · subst y; exact k
    · exact id

/-- An update of a handover record, by default one that leaves the qualities. -/
theorem graded_updateRecord (x : LinkNo) (f : Handover → Handover)
    (k : ∀ w, QualityFits w → QualityFits (f w) := by exact fun _ => id) : Graded s (updateRecord x f s) := by
  refine graded_setRecord s x fun fits v e => ?_
  obtain ⟨w, hw, rfl⟩ := Option.map_eq_some_iff.mp e
  exact k w (fits w hw)

theorem graded_setHead (h : HeadNo) (r : HeadRecord) : Graded s (s.setHead h r) := .of_same rfl rfl

theorem graded_setResv (x : LinkNo) (r : Held) : Graded s (s.setResv x r) := .of_same rfl rfl

theorem graded_setExch (x : LinkNo) (e : Exchange) : Graded s (s.setExch x e) := .of_same rfl rfl

theorem graded_setFrameExch (r : SlotRecord) (x : LinkNo) (e : Exchange) : Graded s (setFrameExch r x e s) := by
  unfold setFrameExch
  split
  · exact .of_same rfl rfl
  · exact graded_setExch s x e

/-- What acts on the Control Port alone, such as a raise. -/
theorem Graded.of_port {u : State} (k : u = { s with cp := u.cp }) : Graded s u :=
  .of_same (by rw [k]) (by rw [k])

theorem graded_raisePlain (t : Time) (f : Flag) : Graded s (raisePlain t f s) := .of_port s (raise_port ..)

theorem graded_raiseCrane (t : Time) (x : LinkNo) : Graded s (raiseCrane t x s) := .of_port s (raiseCrane_port ..)

theorem graded_raiseHead (t : Time) (h : HeadNo) : Graded s (raiseHead t h s) := .of_port s (raiseHead_port ..)

theorem graded_recomputeStop (t : Time) (x : LinkNo) : Graded s (recomputeStop t x s) :=
  .of_same (by rw [recomputeStop_frame]) (by rw [recomputeStop_frame])

theorem graded_takeOutOfService (h : HeadNo) : Graded s (takeOutOfService h s) := .of_same rfl rfl

theorem graded_unhome (h : HeadNo) : Graded s (unhome h s) := .of_same rfl rfl

theorem graded_invalidateQuality (h : HeadNo) : Graded s (invalidateQuality h s) where
  score _ := id
  quality x fits w e := by
    have mapped : (invalidateQuality h s).record x = (s.record x).map (Handover.invalidate h) := by
      simp [invalidateQuality, State.record, Vector.get_eq_getElem]
    rw [mapped] at e
    obtain ⟨v, hv, rfl⟩ := Option.map_eq_some_iff.mp e
    exact qualityFits_invalidate h (fits v hv)

/-! ## Releases (R34, R65) -/

variable (t : Time) (x : LinkNo)

theorem graded_testDrain (h : HeadNo) : Graded s (testDrain t h s) :=
  .due (((((graded_setHead s h _).trans (graded_takeOutOfService _ h)).trans (graded_invalidateQuality _ h)).trans
    (graded_unhome _ h)).trans (graded_raiseHead _ t h))

theorem graded_released (p : Place) (r : Held) : Graded s (released t x s p r) := by
  have quiet : Graded s (quietCells x p (s.setResv x r)) := by
    rw [quietCells_frame]
    exact .of_same rfl rfl
  exact quiet.trans (graded_testDrain _ t p.head)

theorem graded_releasePrimary : Graded s (releasePrimary t x s) := by
  rw [releasePrimary_eq]
  split
  · exact .refl s
  · exact graded_released s t x _ _

theorem graded_releaseTarget : Graded s (releaseTarget t x s) := by
  rw [releaseTarget_eq]
  split
  · exact .refl s
  · exact graded_released s t x _ _

theorem graded_releaseAll : Graded s (releaseAll t x s) :=
  (graded_releasePrimary s t x).trans (graded_releaseTarget _ t x)

/-! ## Health, tests and outcomes (R97 to R104) -/

/-- R101: a score and its health are set in one event. -/
theorem graded_setHealth (h : Health) {f : Link → Link}
    (k : Scored (s.link x) → Scored { f (s.link x) with health := h }) :
    Graded s (setHealth t x h (updateLink x f s)) := by
  have link : (updateLink x f s).link x = f (s.link x) := by simp [updateLink]
  by_cases same : (f (s.link x)).health = h
  · rw [setHealth, if_pos (by rw [link]; exact same)]
    refine graded_updateLink s x _ fun scored => ?_
    have scored := k scored
    rwa [← same] at scored
  · obtain ⟨c, q, d, eq⟩ := setHealth_frame t x h (s := updateLink x f s) (by rw [link]; exact same)
    rw [eq, link]
    have graded : Graded s (s.setLink x { f (s.link x) with health := h }) := graded_setLink s k
    refine graded.trans (.of_same ?_ rfl)
    apply Vector.ext
    intro i hi
    by_cases e : x.1 = i <;> simp [updateLink, State.setLink, put, e]

theorem graded_abortTest : Graded s (abortTest t x s) := by
  unfold abortTest
  split
  · exact (graded_updateLink s x _).trans (graded_raiseCrane _ t x)
  · exact .refl s

theorem graded_enterLost : Graded s (enterLost t x s) :=
  (graded_setHealth s t x .lost (by exact fun _ => ⟨Nat.le_refl 255, rfl⟩)).trans (graded_abortTest _ t x)

theorem graded_countTestExchange (errors : Nat) : Graded s (countTestExchange t x errors s) := by
  unfold countTestExchange
  split
  · dsimp only
    split
    · exact (graded_updateLink s x _).trans (graded_raiseCrane _ t x)
    · exact graded_updateLink s x _
  · exact .refl s

theorem graded_settleTest (e : Exchange) : Graded s (settleTest t x e s) := by
  unfold settleTest
  split
  · split
    · exact graded_countTestExchange s t x _
    · exact Graded.trans (u := { s with freeUsed := s.freeUsed + 1 }) (.of_same rfl rfl)
        (graded_countTestExchange _ t x _)
  · exact graded_countTestExchange s t x _
  · exact .refl s

theorem graded_stepRecovery (success : Bool) : Graded s (stepRecovery t x success s) := by
  unfold stepRecovery
  split
  · dsimp only
    split
    · exact graded_setHealth s t x .good fun _ => ⟨Nat.zero_le _, rfl⟩
    · exact graded_updateLink s x _
  · exact graded_enterLost s t x

theorem nextScore_le {n : Nat} (h : n ≤ 255) (success : Bool) : nextScore n success ≤ 255 := by
  unfold nextScore
  split <;> omega

/-- R101: below 255 the health read from a score is one of the three. -/
theorem scored_healthOf {l : Link} {n : Nat} (h : n < 255) : Scored { l with score := n, health := healthOf n } := by
  refine ⟨h.le, ?_⟩
  have notLost : healthOf n = .good ∨ healthOf n = .warned ∨ healthOf n = .degraded := by
    unfold healthOf
    split
    · exact .inl rfl
    · split
      · exact .inr (.inl rfl)
      · rw [if_pos (by omega)]
        exact .inr (.inr rfl)
  unfold ScoreFits
  rcases notLost with e | e | e <;> simp [e]

theorem graded_scoreOutcome (success : Bool) : Graded s (scoreOutcome t x success s) := by
  unfold scoreOutcome
  split
  · exact .refl s
  · exact graded_stepRecovery s t x success
  · dsimp only
    split
    · exact graded_enterLost s t x
    · rename_i below
      refine graded_setHealth s t x _ fun scored => scored_healthOf ?_
      have := nextScore_le scored.1 success
      omega

theorem graded_offerCraneAlarm (code previous : Byte) (gantry : Word16) :
    Graded s (offerCraneAlarm t x code previous gantry s) := by
  have offered : ∀ m, Graded s (offerNotice m s) := fun m => .of_port s (offerNotice_port m s)
  unfold offerCraneAlarm
  split
  · exact graded_updateLink s x _
  · split
    · exact (offered _).trans (graded_updateLink _ x _)
    · exact offered _

theorem graded_takeStatus (st : CraneStatus) : Graded s (takeStatus t x st s) := by
  have taken := (graded_updateLink s x fun l => { l with latest := some st }).trans (graded_recomputeStop _ t x)
  unfold takeStatus
  dsimp only
  split
  · exact taken.trans (graded_offerCraneAlarm _ t x _ _ _)
  · exact taken

/-! ## Handover steps (R109 to R119) -/

theorem graded_unplace : Graded s (unplace t x s) :=
  (((graded_releaseAll s t x).trans (graded_updateRecord _ x _ fun w _ => qualityFits_emptyWindow w)).trans
    (graded_enterLost _ t x)).trans (graded_raiseCrane _ t x)

theorem graded_enterDual (p : Place) (forced : Bool) : Graded s (enterDual x p forced s) :=
  ((graded_setResv s x _).trans (graded_updateRecord _ x _)).trans (.of_same rfl rfl)

theorem graded_completeHandover : Graded s (completeHandover t x s) := by
  unfold completeHandover
  split
  · exact .refl s
  · exact (((graded_releasePrimary s t x).trans (graded_setResv _ x _)).trans
      (graded_updateRecord _ x _ (by exact fun _ => qualityFits_recentre _))).trans (graded_raiseCrane _ t x)

theorem graded_dropTarget : Graded s (dropTarget t x s) :=
  ((graded_releaseTarget s t x).trans (graded_updateRecord _ x _)).trans (graded_raiseCrane _ t x)

theorem graded_attemptForced : Graded s (attemptForced x s) := by
  unfold attemptForced
  dsimp only
  split
  · exact (graded_enterDual s x _ true).trans (graded_updateRecord _ x _)
  · exact graded_updateRecord s x _

theorem graded_emergencyMove : Graded s (emergencyMove t x s) := by
  have released := graded_releasePrimary s t x
  unfold emergencyMove
  dsimp only
  split
  · exact ((released.trans (graded_setResv _ x _)).trans
      (graded_updateRecord _ x _ (by exact fun _ => qualityFits_recentre _))).trans (graded_raiseCrane _ t x)
  · exact released.trans (graded_unplace _ t x)

theorem graded_abandonHandover : Graded s (abandonHandover t x s) :=
  (graded_updateRecord s x _).trans (graded_dropTarget _ t x)

theorem graded_stepDual (w : Handover) : Graded s (stepDual t x w s) := by
  unfold stepDual
  split
  · exact graded_abandonHandover s t x
  · exact graded_updateRecord s x _

/-! ## Evaluation and measurement (R48, R53 to R56) -/

theorem graded_startHandover (q : HeadNo) : Graded s (startHandover x q s) := by
  unfold startHandover
  split
  · exact graded_enterDual s x _ false
  · exact graded_updateRecord s x _

theorem graded_evaluate (c : HeadNo) (w : Handover) : Graded s (evaluate x c w s) := by
  unfold evaluate
  split
  · exact graded_updateRecord s x _
  · dsimp only
    split
    · exact (graded_updateRecord s x _).trans (graded_startHandover _ x _)
    · exact graded_updateRecord s x _

theorem graded_coverLink (heads : List HeadNo) (w : Handover) : Graded s (coverLink x heads w s) := by
  unfold coverLink
  dsimp only
  split
  · exact .refl s
  · split
    · exact graded_updateRecord s x _
    · split
      · exact .due (graded_evaluate s x _ w)
      · exact .refl s

theorem graded_evaluateLink (r : SlotRecord) : Graded s (evaluateLink r x s) := by
  unfold evaluateLink
  split
  · exact .refl s
  · split
    · exact .refl s
    · split
      · exact .refl s
      · exact graded_coverLink s x _ _

theorem graded_measureHead (r : SlotRecord) (h : HeadNo) : Graded s (measureHead r h s) := by
  unfold measureHead
  dsimp only
  split
  · rename_i level
    split
    · exact .refl s
    · exact graded_updateRecord s _ _ fun _ => qualityFits_measure _ h (measuredLevel_le level)
  · exact .refl s

/-! ## Judgement and settlement (R94 to R97) -/

theorem graded_judgeCell (r : SlotRecord) (role : Role) (h : HeadNo) : Graded s (judgeCell r x role h s) := by
  unfold judgeCell
  dsimp only
  split
  · exact graded_setFrameExch s r x _
  · have taken := fun e st => (graded_setFrameExch s r x e).trans (graded_takeStatus _ r.time x st)
    split
    · exact (taken _ _).trans (graded_completeHandover _ r.time x)
    · exact taken _ _

theorem graded_settleHandover (e : Exchange) : Graded s (settleHandover t x e s) := by
  unfold settleHandover
  split
  · exact .refl s
  · split
    · exact .due (graded_stepDual s t x _)
    · split
      · split
        · exact graded_unplace s t x
        · exact graded_attemptForced s x
      · exact .refl s
    · exact .refl s

theorem graded_settle (e : Exchange) (result : CellResult) : Graded s (settle t x e result s) :=
  (((graded_updateLink s x _).trans (graded_settleTest _ t x e)).trans (graded_scoreOutcome _ t x _)).trans
    (graded_settleHandover _ t x e)

theorem graded_settleAtClose (r : SlotRecord) : Graded s (settleAtClose r x s) := by
  unfold settleAtClose
  dsimp only
  split
  · exact .refl s
  · split
    · exact .refl s
    · exact (graded_setFrameExch s r x _).trans (graded_settle _ r.time x _ _)

theorem graded_settleAfterRelease : Graded s (settleAfterRelease t x s) := by
  unfold settleAfterRelease
  dsimp only
  split
  · exact .refl s
  · split
    · exact .refl s
    · exact (graded_setExch s x _).trans (graded_settle _ t x _ _)

theorem graded_closeExchange (r : SlotRecord) : Graded s (closeExchange r x s) := by
  unfold closeExchange
  split
  · exact .refl s
  · split
    · exact .refl s
    · exact ((Graded.forEach _ (fun h s => graded_judgeCell s x r .primary h) s).trans
        (Graded.forEach _ (fun h s => graded_judgeCell s x r .target h) _)).trans (graded_settleAtClose _ x r)

/-! ## Heads (R26 to R35, R114 to R120) -/

theorem graded_loseHeadOfLink (h : HeadNo) : Graded s (loseHeadOfLink t h x s) := by
  unfold loseHeadOfLink
  split
  · refine Graded.trans ?_ (graded_settleAfterRelease _ t x)
    split
    · exact graded_completeHandover s t x
    · exact graded_emergencyMove s t x
  · exact .due ((graded_dropTarget s t x).trans (graded_settleAfterRelease _ t x))

theorem graded_drainStartOfLink (h : HeadNo) : Graded s (drainStartOfLink t h x s) := by
  unfold drainStartOfLink
  split
  · split
    · exact (graded_unplace s t x).trans (graded_settleAfterRelease _ t x)
    · split
      · exact graded_updateRecord s x _
      · exact graded_attemptForced s x
  · exact .due ((graded_dropTarget s t x).trans (graded_settleAfterRelease _ t x))

theorem graded_drainEndedOfLink (h : HeadNo) : Graded s (drainEndedOfLink h x s) := by
  unfold drainEndedOfLink
  refine .due (graded_updateRecord s x _ fun w fits => ?_)
  split
  · exact fits
  · split <;> exact fits
  · exact fits

end

section
variable (s : State) (t : Time) (h : HeadNo)

theorem graded_drainEnded : Graded s (drainEnded h s) := .forLinks (fun x s => graded_drainEndedOfLink s x h) s

theorem graded_headDown (state : HeadState) : Graded s (headDown t h state s) := by
  unfold headDown
  split
  · exact (((((graded_setHead s h _).trans (graded_takeOutOfService _ h)).trans (graded_invalidateQuality _ h)).trans
      (Graded.forLinks (fun x s => graded_loseHeadOfLink s t x h) _)).trans (graded_unhome _ h)).trans
      (graded_raiseHead _ t h)
  · exact (graded_setHead s h _).trans (graded_raiseHead _ t h)

theorem graded_expireDrain : Graded s (expireDrain t h s) :=
  ((graded_setHead s h _).trans (graded_raiseHead _ t h)).trans (graded_drainEnded _ h)

theorem graded_tickDrain : Graded s (tickDrain t h s) := by
  unfold tickDrain
  dsimp only
  split
  · split
    · exact graded_expireDrain s t h
    · exact graded_setHead s h _
  · exact .refl s

theorem graded_missStatus : Graded s (missStatus t h s) := by
  unfold missStatus
  dsimp only
  split
  · exact (graded_setHead s h _).trans (graded_headDown _ t h _)
  · exact graded_setHead s h _

theorem graded_closeStatusWindow : Graded s (closeStatusWindow t h s) := by
  unfold closeStatusWindow
  split
  · exact graded_setHead s h _
  · exact graded_missStatus s t h

theorem graded_takeSerial (serial : Word32) : Graded s (takeSerial t h serial s) := by
  unfold takeSerial
  split
  · exact .refl s
  · exact (graded_setHead s h _).trans (graded_raiseHead _ t h)

theorem graded_countStatus : Graded s (countStatus h s) := by
  unfold countStatus
  dsimp only
  split
  · exact .refl s
  · exact graded_setHead s h _

theorem graded_statusState (fault : Bool) : Graded s (statusState t h fault s) := by
  have shown := fun r => (graded_setHead s h r).trans (graded_raiseHead _ t h)
  unfold statusState
  split
  · exact .due (shown _)
  · exact graded_headDown s t h _
  · exact graded_headDown s t h _
  · exact graded_headDown s t h _
  · exact shown _
  · exact .refl s

theorem graded_takeStatusRecord (serial : Word32) (fault : Bool) : Graded s (takeStatusRecord t h serial fault s) :=
  ((graded_takeSerial s t h serial).trans (graded_countStatus _ h)).trans (graded_statusState _ t h fault)

theorem graded_startDrain : Graded s (startDrain t h s) :=
  ((graded_setHead s h _).trans (Graded.forLinks (fun x s => graded_drainStartOfLink s t x h) _)).trans
    (graded_testDrain _ t h)

theorem graded_takeReturn (mf : Word16) (frame slot result level : Byte) (bytes : List Byte) :
    Graded s (takeReturn h mf frame slot result level bytes s) := by
  unfold takeReturn
  split
  · exact graded_setHead s h _
  · dsimp only
    split
    · split
      · exact .refl s
      · exact .of_same rfl rfl
    · exact graded_setHead s h _

theorem graded_headByte (b : Byte) : Graded s (headByte h b s) := by
  have message : ∀ m s, Graded s (takeHeadMessage h m s) := by
    intro m s
    unfold takeHeadMessage
    split
    · exact .refl s
    · exact graded_takeReturn s h _ _ _ _ _ _
    · exact graded_takeStatusRecord s s.now h _ _
  exact Graded.trans (u := setHeadRx h _ s) (.of_same rfl rfl) (.forEach _ message _)

end

end Sys2Proof.Machine
end

section
/-! Fault scores and qualities (R47, R101) through every event and every command. -/

namespace Sys2Proof.Machine

section
variable (s : State)

/-! ## Air time -/

theorem graded_startFrame : Graded s (startFrame s) := by
  have opened : Graded s (frameOpened s) := by
    cases h : atBoundary s
    · rw [frameOpened_plain h]
      exact .of_same rfl rfl
    · rw [frameOpened_boundary h, openMultiframe_frame]
      exact .of_same rfl rfl
  have mapped : Graded (frameOpened s) (assembleBeacon (replaceMap (frameOpened s))) := .of_same rfl rfl
  refine (opened.trans mapped).trans ?_
  rw [(startFrame_aged s).frame]
  exact .of_same rfl rfl

theorem graded_raiseListLow (t : Time) (x : LinkNo) : Graded s (raiseListLow t x s) := .of_port s (raiseListLow_port ..)

theorem graded_composeCommand (t : Time) (x : LinkNo) : Graded s (composeCommand t x s).1 := by
  unfold composeCommand
  dsimp only
  split
  · exact .refl s
  · exact .refl s
  · split
    · refine Graded.trans ?_ (graded_raiseListLow _ t x)
      exact .of_link rfl rfl id
    · exact .of_link rfl rfl id
  · exact graded_setExch s x _
  · exact .refl s

theorem graded_composeDown (t : Time) (x : LinkNo) (role : Role) (h : HeadNo) : Graded s (composeDown t x role h s).1 := by
  have snapshot : Graded s (takeSnapshot t x s) := .due (graded_updateLink s x _)
  have tested : ∀ s, Graded s (composeTest x s).1 := by
    intro s
    unfold composeTest
    split
    · exact .refl s
    · exact (graded_updateLink s x _).trans (graded_setExch _ x _)
    · exact .refl s
  have content : ∀ s, Graded s (composeContent t x s).1 := by
    intro s
    unfold composeContent
    dsimp only
    split
    · exact .refl s
    · split
      · exact tested s
      · exact graded_composeCommand s t x
      · exact .refl s
  exact (snapshot.trans (content _)).trans (graded_setExch _ x _)

theorem graded_startCell (t : Time) (h : HeadNo) : Graded s (startCell t h s) := by
  unfold startCell
  dsimp only
  split
  · exact .of_same rfl rfl
  · split
    case h_2 x role _ =>
      split
      · exact .of_same rfl rfl
      · exact (graded_composeDown s t x role h).trans (.of_same rfl rfl)
    all_goals exact .of_same rfl rfl

theorem graded_startSlot : Graded s (startSlot s) := by
  unfold startSlot
  split
  · exact .refl s
  · exact Graded.trans (u := slotBegun s) (.of_same rfl rfl) (.forHeads (fun h s => graded_startCell s _ h) _)

theorem graded_handOn (o : OpenSlot) : Graded s (handOn o s) := by
  have counted : Graded s (countClosed o s) := .of_same (by rw [countClosed_frame]) (by rw [countClosed_frame])
  have taken : Graded (countClosed o s) (registryTakes o.record (countClosed o s)) := by
    rw [(registryFrame_registryTakes _ o.record).frame]
    exact .of_same rfl rfl
  rw [handOn_eq]
  exact (((counted.trans taken).trans (.forLinks (fun x s => graded_closeExchange s x _) _)).trans
    (.forHeads (fun h s => graded_measureHead s _ h) _)).trans (.forLinks (fun x s => graded_evaluateLink s x _) _)

theorem graded_closeSlot : Graded s (closeSlot s) := by
  have recorded : ∀ o s, Graded s (recordTaken o s) := by
    intro o s
    unfold recordTaken
    split
    · exact .refl s
    · exact graded_handOn s o
  have framed : ∀ o s, Graded s (frameClosed o s) := fun o s =>
    .due ((Graded.forHeads (fun h s => graded_closeStatusWindow s _ h) s).trans
      (.forHeads (fun h s => graded_tickDrain s _ h) _))
  have advanced : ∀ o s, Graded s (advanceSlot o s) := fun o s =>
    .of_same (by rw [advanceSlot_frame]) (by rw [advanceSlot_frame])
  cases slot : s.hp.openSlot with
  | none =>
    simp only [closeSlot, slot]
    exact .refl s
  | some o =>
    rw [closeSlot_eq slot]
    exact Graded.trans (u := slotEnded s) (.of_same rfl rfl) (((recorded o _).trans (framed o _)).trans (advanced o _))

/-! ## Commands of the heads and the Coverage Unit -/

theorem graded_doCoverSet (k hy t w stop : Option Byte) : Graded s (doCoverSet k hy t w stop s).1 := by
  unfold doCoverSet
  dsimp only
  split
  · exact .of_same rfl rfl
  · rw [forLinks_recomputeStop_frame]
    exact .of_same rfl rfl

theorem graded_restoreHead {h : HeadNo} {u : State} (k : restoreHead h s = some u) : Graded s u := by
  unfold restoreHead at k
  split at k
  · rw [← Option.some.inj k]
    exact graded_setHead s h _
  · rw [← Option.some.inj k]
    exact (graded_setHead s h _).trans (graded_drainEnded _ h)
  · rw [← Option.some.inj k]
    exact .refl s
  · cases k
  · cases k

theorem graded_doHeadRestore (head : Byte) : Graded s (doHeadRestore head s).1 := by
  unfold doHeadRestore
  split
  · exact .refl s
  · split
    · exact .refl s
    · rename_i k
      exact graded_restoreHead s k

theorem graded_retireHead {h : HeadNo} {u : State} (k : retireHead h s = some u) : Graded s u := by
  unfold retireHead at k
  split at k
  · rw [← Option.some.inj k]
    exact graded_startDrain s _ h
  · rw [← Option.some.inj k]
    exact graded_setHead s h _
  · cases k
  · cases k
  · cases k

theorem graded_doHeadRetire (head : Byte) : Graded s (doHeadRetire head s).1 := by
  unfold doHeadRetire
  split
  · exact .refl s
  · split
    · exact .refl s
    · rename_i k
      exact graded_retireHead s k

/-! ## Crane commands -/

theorem graded_openLink (x : LinkNo) (terminal : Word32) (p : Place) (interlock : Word16) (lowMark : Nat) :
    Graded s (openLink x terminal p interlock lowMark s) := by
  have fresh : ∀ v, some (Handover.atOpen p.head) = some v → QualityFits v := by
    rintro _ ⟨⟩ q (e | e | e) <;> cases e
  have written : Graded s ((s.setLink x (openedRecord (s.link x) s.now terminal p interlock lowMark)).setRecord x
      (some (Handover.atOpen p.head))) :=
    (graded_setLink s (by exact fun _ => ⟨Nat.zero_le _, rfl⟩)).trans (graded_setRecord _ x fun _ => fresh)
  rw [openLink_eq]
  exact written.trans (.of_same rfl rfl)

theorem graded_doCraneOpen (link : Byte) (terminal : Word32) (head period slot : Byte) (interlock : Word16)
    (lowMark : Byte) : Graded s (doCraneOpen link terminal head period slot interlock lowMark s).1 := by
  unfold doCraneOpen
  split
  · split
    · exact .refl s
    · split
      · exact .refl s
      · split
        · exact .refl s
        · split
          · exact .refl s
          · exact graded_openLink s _ terminal _ interlock _
  · exact .refl s

theorem graded_closeLink (t : Time) (x : LinkNo) : Graded s (closeLink t x s) := by
  have released := (graded_setRecord s x (w := none) fun _ _ e => by cases e).trans (graded_releaseAll _ t x)
  rw [closeLink_eq]
  refine (released.trans ?_).trans (graded_recomputeStop _ t x)
  exact .of_link rfl rfl id

theorem graded_doCraneClose (link : Byte) : Graded s (doCraneClose link s).1 := by
  unfold doCraneClose
  split
  · exact .refl s
  · split
    · exact .refl s
    · exact graded_closeLink s _ _

theorem graded_doCraneMode (link mode : Byte) : Graded s (doCraneMode link mode s).1 := by
  unfold doCraneMode
  split
  · exact .refl s
  · split
    · exact .refl s
    · exact .of_link rfl rfl id

theorem graded_doCraneAppend (link : Byte) (es : List EntryVals) : Graded s (doCraneAppend link es s) := by
  unfold doCraneAppend
  split
  · exact graded_raisePlain s _ _
  · split
    · exact .of_link rfl rfl id
    · refine Graded.trans ?_ (graded_raisePlain _ _ _)
      exact .of_link rfl rfl id

theorem graded_doCraneSplice (link : Byte) (es : List EntryVals) : Graded s (doCraneSplice link es s).1 := by
  unfold doCraneSplice
  split
  · exact .refl s
  · split
    · exact .refl s
    · split
      · exact .of_link rfl rfl id
      · exact .refl s

theorem graded_doCraneFlush (link : Byte) : Graded s (doCraneFlush link s).1 := by
  unfold doCraneFlush
  split
  · exact .refl s
  · dsimp only
    split
    · exact .refl s
    · exact .of_link rfl rfl id

theorem graded_doCraneInterlock (link : Byte) (word : Word16) : Graded s (doCraneInterlock link word s).1 := by
  unfold doCraneInterlock
  split
  · exact .refl s
  · split
    · exact .refl s
    · exact .of_link rfl rfl id

theorem graded_doCraneTest (link : Byte) (n : Word16) : Graded s (doCraneTest link n s).1 := by
  unfold doCraneTest
  split
  · exact .refl s
  · dsimp only
    split
    · exact .of_link rfl rfl id
    · exact .refl s

/-- R105: a LOST link, whose score is 255, keeps it in RECOVERING. -/
theorem graded_recovered {x : LinkNo} (lost : (s.link x).health = .lost) : Graded s (recovered x s).1 :=
  graded_setHealth s s.now x .recovering (by
    rintro ⟨le, fits⟩
    rw [ScoreFits, lost] at fits
    exact ⟨le, fits⟩)

theorem graded_placeLink (x : LinkNo) (p : Place) : Graded s (placeLink x p s) :=
  ((graded_setResv s x _).trans (graded_updateLink _ x _)).trans
    (graded_updateRecord _ x _ (by exact fun w _ => qualityFits_emptyWindow w))

theorem graded_doCraneRecover (link head : Byte) : Graded s (doCraneRecover link head s).1 := by
  unfold doCraneRecover
  split
  · exact .refl s
  · split
    · exact .refl s
    · split
      · exact .refl s
      · split
        · exact .refl s
        · rename_i lost
          rw [not_not] at lost
          split
          · split
            · exact .refl s
            · split
              · exact .refl s
              · split
                · exact .refl s
                · exact (graded_placeLink s _ _).trans (graded_recovered _ (placeLink_health lost))
          · exact graded_recovered s lost

theorem graded_doCraneMove (link head : Byte) : Graded s (doCraneMove link head s).1 := by
  unfold doCraneMove
  split
  · split
    · exact .refl s
    · split
      · exact .refl s
      · split
        · exact .refl s
        · split
          · exact .refl s
          · split
            · exact .refl s
            · split
              · exact graded_updateRecord s _ _
              · exact graded_enterDual s _ _ true
  · exact .refl s

theorem graded_changeHold (t : Time) {f : State → State} (k : Graded s (f s)) : Graded s (changeHold t f s) := by
  unfold changeHold
  dsimp only
  split
  · exact k.trans (.forLinks (fun x s => graded_abortTest s t x) _)
  · exact k

/-! ## Commands of the Registry -/

theorem graded_doFilterSet (mask : Option Word32) (v : Option FilterVals) : Graded s (doFilterSet mask v s).1 := by
  unfold doFilterSet
  split <;> exact .of_same rfl rfl

theorem graded_doProfileSet (p : Byte) (r f : Option Word16) (d e a : Option Byte) (g : Option Word16) :
    Graded s (doProfileSet p r f d e a g s).1 := by
  unfold doProfileSet
  split <;> exact .of_same rfl rfl

theorem graded_doUnitRelease (n : EntryName) : Graded s (doUnitRelease n s).1 := by
  unfold doUnitRelease
  split
  · exact .refl s
  · dsimp only
    split <;> exact .of_same rfl rfl

theorem graded_doAlarmAck (n : EntryName) (k : Byte) : Graded s (doAlarmAck n k s).1 := by
  unfold doAlarmAck
  split
  · exact .refl s
  · dsimp only
    split <;> exact .of_same rfl rfl

theorem graded_doPlanStage (restart : Bool) (edits : List PlanEdit) : Graded s (doPlanStage restart edits s).1 := by
  unfold doPlanStage
  split <;> exact .of_same rfl rfl

/-! ## Quiet reset (R171) -/

theorem graded_quietLinks : Graded s (quietLinks s) := by
  have closed : Graded s (forLinks (closeIfOpen s.now) s) := by
    refine .forLinks (fun x s => ?_) s
    unfold closeIfOpen
    split
    · exact .refl s
    · exact graded_closeLink s _ x
  unfold quietLinks
  dsimp only
  generalize forLinks (closeIfOpen s.now) s = u at closed
  refine closed.trans ⟨fun x scored => ?_, fun _ => id⟩
  unfold State.link
  simp only [Vector.get_eq_getElem, Vector.getElem_map]
  exact scored

theorem graded_quietBlocks : Graded s (quietBlocks s) := by
  have raised : Graded s (raisePlain s.now .restarted (clearFlags s)) := by
    rw [raisePlain, raise_port]
    exact .of_same rfl rfl
  have linked := graded_quietLinks (quietHeads (quietPlans (raisePlain s.now .restarted (clearFlags s))))
  have prepared : Graded (raisePlain s.now .restarted (clearFlags s))
      (quietHeads (quietPlans (raisePlain s.now .restarted (clearFlags s)))) := .of_same rfl rfl
  unfold quietBlocks
  generalize quietLinks _ = u at linked
  exact ((raised.trans prepared).trans linked).trans (.of_same rfl rfl)

/-! ## The Control Port -/

theorem graded_carryOut (c : HostCmd) : Graded s (carryOut c s).1 := by
  cases c with
  | pollEvents | notifySet | identify | planCommit | planQuery | mapQuery | registryQuery | reportSet | reportQuery
  | fetchReports | fetchAlarms => exact .of_same rfl rfl
  | quietReset => exact graded_quietBlocks s
  | planStage restart edits => exact graded_doPlanStage s restart edits
  | headRestore h => exact graded_doHeadRestore s h
  | headRetire h => exact graded_doHeadRetire s h
  | headQuery h => rw [carryOut, doHeadQuery_state]; exact .refl s
  | coverSet k hy t w stop => exact graded_doCoverSet s k hy t w stop
  | craneOpen l term h p sl il low => exact graded_doCraneOpen s l term h p sl il low
  | craneClose l => exact graded_doCraneClose s l
  | craneMode l m => exact graded_doCraneMode s l m
  | craneQuery l => rw [carryOut, doCraneQuery_state]; exact .refl s
  | craneAppend l es => exact graded_doCraneAppend s l es
  | craneSplice l es => exact graded_doCraneSplice s l es
  | craneFlush l => exact graded_doCraneFlush s l
  | craneInterlock l w => exact graded_doCraneInterlock s l w
  | craneTest l n => exact graded_doCraneTest s l n
  | craneRecover l h => exact graded_doCraneRecover s l h
  | craneMove l h => exact graded_doCraneMove s l h
  | quayHold code => 
    exact graded_changeHold s s.now (f := fun s => { s with cle := { s.cle with hostHold := code != 0#8 } })
      (.of_same rfl rfl)
  | filterSet mask v => exact graded_doFilterSet s mask v
  | profileSet p r f d e a g => exact graded_doProfileSet s p r f d e a g
  | unitQuery n => rw [carryOut, doUnitQuery_state]; exact .refl s
  | unitRelease n => exact graded_doUnitRelease s n
  | alarmAck n k => exact graded_doAlarmAck s n k

theorem graded_perform (tag : Byte) (c : HostCmd) : Graded s (perform tag c s) := by
  cases c
  case craneAppend l es => exact graded_doCraneAppend s l es
  case quietReset => exact Graded.trans (u := quietQueue _ s) (.of_same rfl rfl) (graded_quietBlocks _)
  all_goals exact Graded.trans (u := queueReply _ s) (.of_same rfl rfl) (graded_carryOut _ _)

theorem graded_takeFrame (f : Frame) : Graded s (takeFrame f s) := by
  unfold takeFrame
  split
  · exact graded_perform s f.tag _
  · unfold takeUnknown
    split
    · exact Graded.trans (u := { s with cp := { s.cp with malformed := bump s.cp.malformed } }) (.of_same rfl rfl)
        (graded_raisePlain _ _ _)
    · exact .of_same rfl rfl

end

theorem graded_takeWaiting (n : Nat) (s : State) : Graded s (takeWaiting n s) := by
  induction n generalizing s with
  | zero => exact .refl s
  | succ n ih =>
    unfold takeWaiting
    split
    · exact .refl s
    · rename_i f rest _
      have left : Graded s { s with cp := { s.cp with inbound := rest } } := .of_same rfl rfl
      exact .due ((left.trans (graded_takeFrame _ f)).trans (ih _))

section
variable (s : State)

theorem graded_accept (f : Frame) : Graded s (accept f s) := by
  unfold accept
  split
  · exact Graded.trans (u := { s with cp := { s.cp with inbound := s.cp.inbound ++ [f] } }) (.of_same rfl rfl)
      (graded_takeWaiting _ _)
  · exact Graded.trans (u := { s with cp := { s.cp with overruns := bump s.cp.overruns } }) (.of_same rfl rfl)
      (graded_raisePlain _ _ _)

theorem graded_hostCommand (tag : Byte) (c : HostCmd) : Graded s (hostCommand tag c s) := by
  unfold hostCommand
  split
  · exact graded_perform s tag c
  · exact graded_accept s _

theorem graded_frameError : Graded s (frameError s) :=
  Graded.trans (u := { s with cp := { s.cp with frameErrors := bump s.cp.frameErrors } }) (.of_same rfl rfl)
    (graded_raisePlain _ _ _)

theorem graded_setRx (bytes : List Byte) : Graded s (setRx bytes s) := .of_same rfl rfl

theorem graded_completeFrame (f : Frame) (check : Word16) : Graded s (completeFrame f check s) := by
  unfold completeFrame
  split
  · exact graded_accept s f
  · exact graded_frameError s

theorem graded_advanceRx (bytes : List Byte) : Graded s (advanceRx bytes s) := by
  unfold advanceRx
  split
  · split
    · exact graded_setRx s _
    · exact (graded_setRx s _).trans (graded_frameError _)
  · split
    · unfold completeRx
      split
      · exact (graded_setRx s []).trans (graded_completeFrame _ _ _)
      · exact graded_setRx s _
    · exact graded_setRx s _
  · exact graded_setRx s _

theorem graded_receiveByte (b : Byte) (stopBit : Bool) : Graded s (receiveByte b stopBit s) := by
  unfold receiveByte
  split
  · exact .due (graded_setRx s _)
  · exact .refl s
  · exact (graded_setRx s []).trans (graded_frameError _)
  · exact graded_advanceRx s _

theorem graded_endTransmission : Graded s (endTransmission s) := by
  have lowered : ∀ m s, Graded s (lowerPending m s) := by
    intro m s
    cases m
    case craneAlarm => exact .of_link rfl rfl id
    all_goals exact .refl s
  have begun : Graded s (beginNext s) := by
    unfold beginNext
    split
    · rename_i m rest _
      exact Graded.trans (u := { s with cp := { s.cp with sending := some m, replies := rest } }) (.of_same rfl rfl)
        (lowered m _)
    · rename_i m rest _ _
      exact Graded.trans (u := { s with cp := { s.cp with sending := some m, notices := rest } }) (.of_same rfl rfl)
        (lowered m _)
    · exact .of_same rfl rfl
  exact begun.trans (graded_takeWaiting _ _)

end

/-! ## Every step -/

/-- What the Registry does touches neither links nor handover records. -/
theorem RegistryStep.graded {s u : State} (k : RegistryStep s u) : Graded s u :=
  .of_same (by rw [k.frame]) (by rw [k.frame])

/-- A state whose links and records are those of hard reset. -/
theorem graded_reset {s u : State} (links : u.cle = CraneEngine.reset) (records : u.cov = Coverage.reset) : Graded s u :=
  Graded.trans (u := State.reset) ⟨fun x _ => scoreLaw_reset x, fun x _ => qualityLaw_reset x⟩
    (.of_same (by rw [links]; rfl) (by rw [records]; rfl))

theorem whileRunning_graded {f : State → State} {s t : State} (k : Graded s (f s)) (e : whileRunning f s = .next t) :
    Graded s t := by
  cases e
  exact .due k

theorem exec_graded (i : Instr) {s t : State} (e : exec i s = .next t) : Graded s t := by
  cases i
  case hardReset =>
    cases e
    exact graded_reset rfl rfl
  case resetnRise =>
    cases e
    unfold resetRises
    split
    · exact .refl s
    · exact graded_reset rfl rfl
  case frameStart => exact whileRunning_graded (graded_startFrame s) e
  case slotStart => exact whileRunning_graded (graded_startSlot s) e
  case slotClose => exact whileRunning_graded (graded_closeSlot s) e
  case unitBecomesPolling u => exact whileRunning_graded (.due (registryStep_startPolling s u).graded) e
  case unitBecomesSilentByAge u => exact whileRunning_graded (.due (registryStep_goSilent s s.now u).graded) e
  case unitBecomesGone u => exact whileRunning_graded (.due (registryStep_goGone s s.now u).graded) e
  case pollAttemptsExhausted u => exact whileRunning_graded (.due (registryStep_countUnanswered s s.now u).graded) e
  case headReturn h mf frame slot result level bytes =>
    exact whileRunning_graded (graded_takeReturn s h mf frame slot result level bytes) e
  case headStatusRecord h serial fault => exact whileRunning_graded (graded_takeStatusRecord s s.now h serial fault) e
  case headLinkUp h serial fault => exact whileRunning_graded (.due (graded_takeStatusRecord s s.now h serial fault)) e
  case headLinkGap h => exact whileRunning_graded (f := setHeadRx h []) (.of_same rfl rfl) e
  case headLinkByteReceived h b => exact whileRunning_graded (graded_headByte s h b) e
  case headMissedAbsent h => exact whileRunning_graded (.due (graded_missStatus s s.now h)) e
  case drainExpiry h => exact whileRunning_graded (.due (graded_expireDrain s s.now h)) e
  case recoveryComplete x => exact whileRunning_graded (.due (graded_stepRecovery s s.now x true)) e
  case handoverAbandon x => exact whileRunning_graded (.due (graded_abandonHandover s s.now x)) e
  case testComplete x d => exact whileRunning_graded (.due (graded_countTestExchange s s.now x d.1)) e
  case handoverStart x =>
    refine whileRunning_graded (f := reachThreshold x) ?_ e
    unfold reachThreshold
    split
    · exact .refl s
    · exact graded_evaluate s x _ _
  case holdinChange level =>
    cases e
    split
    · exact graded_changeHold s s.now (f := setHoldin level) (.of_same rfl rfl)
    · exact .of_same rfl rfl
  case frameReceived kind tag body check =>
    exact whileRunning_graded (f := receiveFrame ⟨kind, tag, body⟩ check)
      ((graded_setRx s []).trans (graded_completeFrame _ _ _)) e
  case frameGap =>
    refine whileRunning_graded (f := frameGapPassed) ?_ e
    unfold frameGapPassed
    split
    · exact .refl s
    · exact (graded_setRx s []).trans (graded_frameError _)
  case unknownCommand tag kind body => exact whileRunning_graded (graded_accept s _) e
  case messageTransmitted => exact whileRunning_graded (graded_endTransmission s) e
  case controlPortByteReceived b stop => exact whileRunning_graded (graded_receiveByte s b stop) e
  all_goals exact whileRunning_graded (graded_hostCommand s _ _) e

theorem step_graded {s t : State} (e : step s = .next t) : Graded s t := by
  unfold step at e
  split at e
  · cases e
    exact .refl s
  · rename_i c rest _
    exact Graded.trans (u := { s with pending := rest }) (.of_same rfl rfl) (exec_graded c e)

end Sys2Proof.Machine

open Sys2Proof Sys2Proof.Machine

/-- Settles O57: every step is `Graded`. -/
theorem stepKeepsScoresAndQualities : Obligations.StepKeepsScoresAndQualities :=
  ⟨fun _ _ law e => (step_graded e).scoreLaw law, fun _ _ law e => (step_graded e).qualityLaw law⟩
end

section
/-! SUPPORT. One evaluation of a link (R53 to R56, R109): what it answers in each branch, and what it leaves. -/

namespace Sys2Proof.Machine

/-! ## What an evaluation reads -/

/-- An evaluation's qualifier is no matter of what stands outside heads, reservations, settings and records. -/
theorem qualifier_congr {s u : State} (resv : u.fs.resv = s.fs.resv) (heads : u.hp.heads = s.hp.heads)
    (cov : u.cov = s.cov) (x : LinkNo) (c : HeadNo) : qualifier u x c = qualifier s x c := by
  have score : ∀ h, effectiveScore u x h = effectiveScore s x h := by
    intro h
    unfold effectiveScore scoreOf otherLinks linkReservations State.record State.resv
    rw [cov, resv]
  have near : ∀ h, neighbour u x h = neighbour s x h := by
    intro h
    unfold neighbour State.head
    simp only [heads, score]
  unfold qualifier rankedNeighbours State.record
  simp only [score, near, cov]

/-- A target search is no matter of what stands outside heads, the table, the active plan and the link's period and
phase. -/
theorem targetSearch_congr {s u : State} {x : LinkNo} (resv : u.fs.resv = s.fs.resv) (active : u.fs.active = s.fs.active)
    (heads : u.hp.heads = s.hp.heads) (period : (u.link x).period = (s.link x).period)
    (phase : (u.link x).phase = (s.link x).phase) (h : HeadNo) : targetSearch u x h = targetSearch s x h := by
  have admits : admissible u x = admissible s x := by
    funext p
    unfold admissible linkReservations State.head State.resv
    rw [table_congr resv, resv, active, heads]
  unfold targetSearch
  rw [admits, period, phase]

/-- A qualifier presupposes a valid quality of the serving head (R54, R55). -/
theorem quality_of_qualifier {s : State} {x : LinkNo} {c q : HeadNo} {w : Handover} (record : s.record x = some w)
    (k : qualifier s x c = some q) : (w.quality c).isSome = true := by
  cases e : w.quality c with
  | some _ => rfl
  | none => simp [qualifier, effectiveScore, record, e] at k

/-- R53, R54. -/
theorem evaluable_iff {l : Link} : evaluable l = true ↔
    (l.health = .good ∨ l.health = .warned ∨ l.health = .degraded) ∧ (l.mode = .standby ∨ l.mode = .service) := by
  simp [evaluable, or_assoc]

/-! ## The branches of an evaluation (R55, R56, R109) -/

/-- A handover record after an evaluation with qualifier `q` (R56). -/
def Handover.counted (w : Handover) (q : HeadNo) : Handover :=
  { w with candidate := some q, trigger := nextTrigger w q, state := .candidate }

section
variable {s : State} {x : LinkNo} {c : HeadNo} {w : Handover} (record : s.record x = some w)
include record

theorem updateRecord_eq (f : Handover → Handover) : updateRecord x f s = s.setRecord x (some (f w)) := by
  rw [updateRecord, record]
  rfl

/-- R56: without a qualifier the link is SETTLED with no candidate. -/
theorem evaluate_unqualified (k : qualifier s x c = none) : evaluate x c w s =
    s.setRecord x (some { w with candidate := none, trigger := 0, state := .settled }) := by
  rw [evaluate, k]
  exact updateRecord_eq record _

/-- R56, R109: with a qualifier the link counts, and starts a handover at the threshold. -/
theorem evaluate_qualified {q : HeadNo} (k : qualifier s x c = some q) : evaluate x c w s =
    if thresholdFor s (s.link x).health ≤ nextTrigger w q then
      startHandover x q (s.setRecord x (some (w.counted q)))
    else s.setRecord x (some (w.counted q)) := by
  rw [evaluate, k]
  dsimp only
  rw [updateRecord_eq record, State.setRecord_link]
  rfl

/-- R109: a search that admits a slot leads into DUAL. -/
theorem startHandover_found {q : HeadNo} {p : Place} (k : targetSearch s x q = some p) :
    (startHandover x q s).resv x = { s.resv x with target := some p } ∧
      (startHandover x q s).record x = some { w with state := .dual, dual := 0, forced := false } := by
  rw [startHandover, k]
  refine ⟨get_put_same .., ?_⟩
  have placed : (s.setResv x { s.resv x with target := some p }).record x = some w := record
  unfold enterDual
  dsimp only
  rw [updateRecord_eq placed]
  exact get_put_same ..

/-- R109: a search that reports NOSLOT is counted. -/
theorem startHandover_blocked {q : HeadNo} (k : targetSearch s x q = none) :
    startHandover x q s = s.setRecord x (some { w with blocked := bump w.blocked }) := by
  rw [startHandover, k]
  exact updateRecord_eq record _

/-- An evaluation with qualifier `q`, as the manual has it (R56, R67, R109). -/
theorem evaluate_outcome {q : HeadNo} (k : qualifier s x c = some q) :
    (nextTrigger w q < thresholdFor s (s.link x).health → (evaluate x c w s).resv x = s.resv x ∧
      (evaluate x c w s).record x = some (w.counted q)) ∧
    (thresholdFor s (s.link x).health ≤ nextTrigger w q →
      (∀ p, TargetFound s x q p → (evaluate x c w s).resv x = { s.resv x with target := some p } ∧
        (evaluate x c w s).record x = some { w.counted q with state := .dual, dual := 0, forced := false }) ∧
      (NoTarget s x q → (evaluate x c w s).resv x = s.resv x ∧
        (evaluate x c w s).record x = some { w.counted q with blocked := bump w.blocked })) := by
  have counted : (s.setRecord x (some (w.counted q))).record x = some (w.counted q) := State.record_setRecord_same ..
  have search : targetSearch (s.setRecord x (some (w.counted q))) x q = targetSearch s x q := rfl
  rw [evaluate_qualified record k]
  refine ⟨fun below => ?_, fun reached => ⟨fun p found => ?_, fun none => ?_⟩⟩
  · rw [if_neg (Nat.not_le.mpr below)]
    exact ⟨rfl, counted⟩
  · rw [if_pos reached]
    exact startHandover_found counted (search.trans (targetFound_iff.mp found))
  · rw [if_pos reached, startHandover_blocked counted (search.trans (noTarget_iff.mp none))]
    exact ⟨rfl, State.record_setRecord_same ..⟩

end

/-! ## What an evaluation leaves -/

/-- From `s` to `u` the record and the TARGET of link `x` have changed at most, and with them the marks of R110. -/
structure Evaluating (x : LinkNo) (s u : State) : Prop where
  links : u.cle.links = s.cle.links
  port : u.cp = s.cp
  resv : ∀ y, y ≠ x → u.resv y = s.resv y
  record : ∀ y, y ≠ x → u.record y = s.record y

theorem Evaluating.trans {x : LinkNo} {s u v : State} (a : Evaluating x s u) (b : Evaluating x u v) :
    Evaluating x s v where
  links := b.links.trans a.links
  port := b.port.trans a.port
  resv y ne := (b.resv y ne).trans (a.resv y ne)
  record y ne := (b.record y ne).trans (a.record y ne)

theorem Evaluating.othersKept {x : LinkNo} {s u : State} (k : Evaluating x s u) : OthersKept x s u :=
  fun y ne => ⟨by rw [State.link, k.links]; rfl, k.resv y ne, k.record y ne⟩

section
variable (x : LinkNo) (s : State)

theorem evaluating_updateRecord (f : Handover → Handover) : Evaluating x s (updateRecord x f s) :=
  ⟨rfl, rfl, fun _ _ => rfl, fun _ ne => State.record_setRecord_other s _ ne.symm⟩

theorem evaluating_startHandover (q : HeadNo) : Evaluating x s (startHandover x q s) := by
  unfold startHandover
  split
  · rename_i p _
    have placed : Evaluating x s (s.setResv x { s.resv x with target := some p }) :=
      ⟨rfl, rfl, fun _ ne => State.resv_setResv_other s _ ne.symm, fun _ _ => rfl⟩
    exact (placed.trans (evaluating_updateRecord x _ _)).trans ⟨rfl, rfl, fun _ _ => rfl, fun _ _ => rfl⟩
  · exact evaluating_updateRecord x s _

theorem evaluating_evaluate (c : HeadNo) (w : Handover) : Evaluating x s (evaluate x c w s) := by
  unfold evaluate
  split
  · exact evaluating_updateRecord x s _
  · dsimp only
    split
    · exact (evaluating_updateRecord x s _).trans (evaluating_startHandover x _ _)
    · exact evaluating_updateRecord x s _

end

/-! ## HANDOVER_START (log entry 8) -/

theorem evaluationOf_iff {s : State} {x : LinkNo} {c : HeadNo} {w : Handover} : evaluationOf s x = some (c, w) ↔
    s.record x = some w ∧ servingHead s x = some c ∧ w.state ≠ .dual ∧ w.forced = false ∧
      evaluable (s.link x) = true ∧ (w.quality c).isSome = true := by
  unfold evaluationOf
  split
  · rename_i v d record serving
    rw [record, serving]
    simp only [Option.some.injEq]
    split
    · rename_i out
      refine ⟨nofun, ?_⟩
      rintro ⟨rfl, -, state, forced, -⟩
      exact absurd out (by simp [state, forced])
    · rename_i plain
      rw [not_or, Bool.not_eq_true] at plain
      split
      · rename_i fit
        rw [Bool.and_eq_true] at fit
        simp only [Option.some.injEq, Prod.mk.injEq]
        constructor
        · rintro ⟨rfl, rfl⟩
          exact ⟨rfl, rfl, plain.1, plain.2, fit⟩
        · rintro ⟨rfl, rfl, -⟩
          exact ⟨rfl, rfl⟩
      · rename_i unfit
        refine ⟨nofun, ?_⟩
        rintro ⟨rfl, rfl, -, -, fit⟩
        exact absurd (Bool.and_eq_true_iff.mpr fit) unfit
  · rename_i none
    exact ⟨nofun, fun k => absurd k.2.1 (none w c k.1)⟩

theorem handoverDue_iff {s : State} {x : LinkNo} {c : HeadNo} {w : Handover} : handoverDue s x = some (c, w) ↔
    evaluationOf s x = some (c, w) ∧
      ∃ q, qualifier s x c = some q ∧ thresholdFor s (s.link x).health ≤ nextTrigger w q := by
  unfold handoverDue
  cases evaluation : evaluationOf s x with
  | none => simp
  | some pair =>
    obtain ⟨d, v⟩ := pair
    dsimp only
    cases qualified : qualifier s x d with
    | none =>
      refine ⟨nofun, ?_⟩
      rintro ⟨⟨⟩, q, k, -⟩
      rw [qualified] at k
      cases k
    | some q =>
      dsimp only
      split
      · rename_i reached
        refine ⟨fun e => ⟨e, ?_⟩, fun k => k.1⟩
        cases e
        exact ⟨q, qualified, reached⟩
      · rename_i below
        refine ⟨nofun, ?_⟩
        rintro ⟨⟨⟩, p, k, reached⟩
        rw [qualified] at k
        cases k
        exact absurd reached below

end Sys2Proof.Machine

open Sys2Proof Sys2Proof.Machine

/-- Settles O26: where the handover is due the outcome of the evaluation, elsewhere no change. -/
theorem handoverStarts : Obligations.HandoverStarts := by
  refine ⟨fun s x c w q n running record serving state forced mode health qualifies hn reached => ?_,
    fun s x running early => ?_⟩
  · subst hn
    have qualified := qualifier_iff.mp qualifies
    have due : handoverDue s x = some (c, w) := handoverDue_iff.mpr ⟨evaluationOf_iff.mpr ⟨record, serving, state, forced,
      evaluable_iff.mpr ⟨health, mode⟩, quality_of_qualifier record qualified⟩, q, qualified, reached⟩
    have event : reachThreshold x s = evaluate x c w s := by rw [reachThreshold, due]
    have frame := evaluating_evaluate x s c w
    obtain ⟨found, none⟩ := (evaluate_outcome record qualified).2 reached
    rw [← event] at frame found none
    exact ⟨_, whileRunning_running running, found, none, frame.links, frame.port, frame.othersKept⟩
  · have idle : handoverDue s x = none := by
      cases due : handoverDue s x with
      | none => rfl
      | some pair =>
        obtain ⟨evaluation, q, qualified, reached⟩ := handoverDue_iff.mp due
        obtain ⟨record, serving, state, forced, fit, -⟩ := evaluationOf_iff.mp evaluation
        obtain ⟨health, mode⟩ := evaluable_iff.mp fit
        have below := early _ _ q record serving state forced mode health (qualifier_iff.mpr qualified)
        exact absurd reached (Nat.not_le.mpr below)
    have event : reachThreshold x s = s := by rw [reachThreshold, idle]
    rw [show exec (.handoverStart x) s = .next (reachThreshold x s) from whileRunning_running running, event]
end

section
/-! SUPPORT. The close of a slot with one cell that calls for a return, a LISTEN or CRANE cell: its parts that do nothing,
and the measurement (R41, R47 to R49). -/

namespace Sys2Proof.Machine

/-! ## Repetitions with one turn that acts -/

theorem forHeads_idle {f : HeadNo → State → State} (k : ∀ h s, f h s = s) (s : State) : forHeads f s = s :=
  forHeads_keeps (P := fun u => u = s) (fun h u e => (k h u).trans e) rfl

theorem forLinks_idle {f : LinkNo → State → State} (k : ∀ x s, f x s = s) (s : State) : forLinks f s = s :=
  forLinks_keeps (P := fun u => u = s) (fun x u e => (k x u).trans e) rfl

theorem forHeads_only {f : HeadNo → State → State} (h : HeadNo) (others : ∀ g, g ≠ h → ∀ s, f g s = s) (s : State) :
    forHeads f s = f h s := by
  obtain ⟨u, before, after⟩ := forHeads_around (R := fun s u => u = s) (fun _ => rfl) (fun a b => b.trans a) h others s
  rw [after, before]

theorem forLinks_only {f : LinkNo → State → State} (x : LinkNo) (others : ∀ y, y ≠ x → ∀ s, f y s = s) (s : State) :
    forLinks f s = f x s := by
  obtain ⟨u, before, after⟩ := forLinks_around (R := fun s u => u = s) (fun _ => rfl) (fun a b => b.trans a) x others s
  rw [after, before]

/-! ## A record without reefer cells (R42, R127) -/

@[simp] theorem close_cell (e : Entry) : e.close.cell = e.cell := by
  unfold Entry.close
  split
  · rfl
  · rfl
  · rfl
  · split
    · rfl
    · split
      · split <;> rfl
      · rfl

section
variable {r : SlotRecord} (none : ∀ h, isReeferCell (r.entries.get h).cell = false)
include none

theorem garbledResult_plain (h : HeadNo) : garbledResult (r.entries.get h) = false := by
  have k := none h
  unfold garbledResult
  split
  · rename_i e
    rw [e] at k
    cases k
  · rename_i e
    rw [e] at k
    cases k
  · rfl

theorem goodBurst_plain (h : HeadNo) : goodBurst r h = .none := by simp [goodBurst, none h]

theorem discarded_plain (h : HeadNo) : discarded r h = false := by
  simp [discarded, betterHeard, goodBurst_plain none]

/-- R127: the Registry passes it by. -/
theorem registryTakes_plain (s : State) : registryTakes r s = s := by
  unfold registryTakes
  rw [forHeads_idle (f := takeReefer r) fun h s => by simp [takeReefer, none h]]
  exact forHeads_idle (fun h s => by simp [missDiscarded, discarded_plain none]) s

end

/-- R42: no garbled result is counted. -/
theorem countClosed_plain {o : OpenSlot} (none : ∀ h, isReeferCell (o.record.entries.get h).cell = false)
    (current : o.stale = false) (s : State) : countClosed o s = s := by
  rw [countClosed_current (.inl current)]
  exact forHeads_idle (fun h s => by simp [countGarbled, garbledResult_plain none]) s

/-! ## The only entry of a slot -/

section
variable {s : State} {o : OpenSlot} {h : HeadNo} (only : OnlyEntry s o h)
include only

/-- The link whose level a cell of the slot measures is that of the only entry. -/
theorem OnlyEntry.unmeasured {g : HeadNo} (ne : g ≠ h) : measuredLink (o.record.entries.get g).cell = none := by
  rw [record_entry, close_cell]
  rcases only.others g ne with e | e <;> rw [e] <;> rfl

theorem OnlyEntry.noReefer (own : isReeferCell (o.entries.get h).cell = false) (g : HeadNo) :
    isReeferCell (o.record.entries.get g).cell = false := by
  rw [record_entry, close_cell]
  by_cases e : g = h
  · rw [e]
    exact own
  · rcases only.others g e with k | k <;> rw [k] <;> rfl

theorem OnlyEntry.craneHeads_none {x : LinkNo} {role : Role} (ne : (o.entries.get h).cell ≠ .crane x role) :
    craneHeads o.record x role = [] := by
  simp only [craneHeads, List.filter_eq_nil_iff, List.mem_finRange, record_entry, close_cell, beq_iff_eq, true_implies]
  intro g k
  by_cases e : g = h
  · exact ne (e ▸ k)
  · rcases only.others g e with q | q <;> rw [q] at k <;> cases k

theorem OnlyEntry.craneHeads_own {x : LinkNo} {role : Role} (own : (o.entries.get h).cell = .crane x role) :
    craneHeads o.record x role = [h] := by
  have alone : ∀ g, ((o.record.entries.get g).cell == .crane x role) = (g == h) := by
    intro g
    rw [record_entry, close_cell, Bool.eq_iff_iff, beq_iff_eq, beq_iff_eq]
    constructor
    · intro k
      by_contra e
      rcases only.others g e with q | q <;> rw [q] at k <;> cases k
    · rintro rfl
      exact own
  have single : ∀ h : HeadNo, (List.finRange 12).filter (· == h) = [h] := by decide
  rw [craneHeads, List.filter_congr fun g _ => alone g]
  exact single h

/-- A link without a CRANE cell in the record is judged and evaluated nowhere (R53, R94). -/
theorem OnlyEntry.closeExchange_other {x : LinkNo} (ne : ∀ role, (o.entries.get h).cell ≠ .crane x role) (u : State) :
    closeExchange o.record x u = u := by
  rw [closeExchange, only.craneHeads_none (ne .primary), only.craneHeads_none (ne .target)]
  split <;> rfl

theorem OnlyEntry.evaluateLink_other {x : LinkNo} (ne : ∀ role, (o.entries.get h).cell ≠ .crane x role) (u : State) :
    evaluateLink o.record x u = u := by
  rw [evaluateLink, only.craneHeads_none (ne .primary), only.craneHeads_none (ne .target)]
  split
  · rfl
  · split <;> rfl

/-- R48: the record's one measurement. -/
theorem OnlyEntry.measures (u : State) : forHeads (measureHead o.record) u = measureHead o.record h u := by
  refine forHeads_only h (fun g ne v => ?_) u
  rw [measureHead, only.unmeasured ne]

/-- R41: the close of a slot of the frame in progress, of 1 to 22. -/
theorem OnlyEntry.closes (own : isReeferCell (o.entries.get h).cell = false) : closeSlot s = advanceSlot o
    (forLinks (evaluateLink o.record) (measureHead o.record h (forLinks (closeExchange o.record) (slotEnded s)))) := by
  have reefers := only.noReefer own
  have record : o.time.slot ≠ 0 := slot_ne_zero.mp (Nat.pos_iff_ne_zero.mp only.slot.1)
  rw [closeSlot_eq only.inProgress, recordTaken_record record, frameClosed_early only.slot.2, handOn_eq,
    countClosed_plain reefers only.current.1, registryTakes_plain reefers, handOnLinks, only.measures]

end

/-- R1: the advance at the close of a slot of the frame in progress, of 0 to 22. -/
theorem advanceSlot_current {o : OpenSlot} (current : o.stale = false) (early : o.time.slot.1 < 23) (s : State) :
    advanceSlot o s = { s with fs := { s.fs with now := (advanceSlot o s).fs.now, slotStarted := false } } := by
  unfold advanceSlot
  rw [if_neg (by simp [current]), dif_pos early]

/-! ## A measurement (R47 to R49) -/

/-- The model's measurement of a window is the one the manual gives (R47, R49). -/
theorem measure_eq (w : Handover) (k : Nat) (h : HeadNo) (level : Nat) : w.measure k h level = measured k level h w := by
  unfold Handover.measure Handover.setQuality Handover.quality measured
  cases w.centre with
  | none => rfl
  | some c =>
    simp only [headBelow_iff, headAbove_iff]
    by_cases own : c = h
    · simp [own]
    · rw [if_neg own, if_neg own, if_neg (Ne.symm own)]
      by_cases left : h.1 + 1 = c.1
      · simp [left]
      · by_cases right : c.1 + 1 = h.1
        · simp [left, right]
        · simp [left, right]

/-- A measurement acts on the qualities alone. -/
theorem measured_frame (k level : Nat) (h : HeadNo) (w : Handover) : measured k level h w =
    { w with leftQ := (measured k level h w).leftQ, centreQ := (measured k level h w).centreQ,
             rightQ := (measured k level h w).rightQ } := by
  unfold measured
  split
  · rfl
  · split
    · rfl
    · split
      · rfl
      · split <;> rfl

/-- R48: the level of an entry awaited by a head in service. -/
theorem measuredLevel_close {e : Entry} {x : LinkNo} (cell : measuredLink e.cell = some x) :
    measuredLevel e.close = if e.outOfService = false ∧ e.awaited = true then some (levelOf e) else none := by
  obtain ⟨held, awaited, ret, out⟩ := e
  unfold Entry.close levelOf
  split
  case h_4 => cases out <;> cases awaited <;> cases ret <;> rfl
  all_goals
    rename_i quiet
    rw [quiet] at cell
    cases cell

section
variable {o : OpenSlot} {h : HeadNo} {x : LinkNo}
  (cell : measuredLink (o.entries.get h).cell = some x) (s : State)
include cell

/-- R48: the measurement of a LISTEN or CRANE cell on a head in service. -/
theorem measureHead_taken (current : o.stale = false)
    (entry : (o.entries.get h).outOfService = false ∧ (o.entries.get h).awaited = true)
    (service : inService s h = true) (fresh : (s.exch x).opened = false) : measureHead o.record h s =
      s.setRecord x ((s.record x).map (measured s.cov.settings.filter (levelOf (o.entries.get h)) h)) := by
  have level := measuredLevel_close cell
  rw [if_pos entry] at level
  have stale : o.record.stale = false := current
  rw [measureHead, record_entry, close_cell, cell, level]
  dsimp only
  rw [if_neg (by simp [service, openedMeanwhile, fresh, stale]), updateRecord]
  simp only [measure_eq]

/-- R29, R48, R71: a head out of service, or a link opened in the frame, yields none. -/
theorem measureHead_none (k : (o.entries.get h).outOfService = true ∨ inService s h = false ∨ (s.exch x).opened = true) :
    measureHead o.record h s = s := by
  rw [measureHead, record_entry, close_cell, cell, measuredLevel_close cell]
  rcases k with out | off | opened
  · rw [if_neg (by simp [out])]
  · split
    · rw [if_pos (by simp [off])]
    · rfl
  · split
    · rename_i y _ e _
      cases e
      rw [if_pos (by simp [openedMeanwhile, opened])]
    · rfl

end

end Sys2Proof.Machine
end

section
/-! SUPPORT. The exchange of a link that is neither in DUAL nor forced nor in TEST (R94 to R102): what its judgement and
settlement leave for the link's evaluation. -/

namespace Sys2Proof.Machine

/-- From `s` to `u` the Crane Link Engine has handled an exchange of link `x`, with raises and notices: the link keeps
mode, period and phase and does not begin to recover. -/
structure Exchanged (x : LinkNo) (s u : State) : Prop where
  frame : u = { s with cle := u.cle, cp := u.cp }
  opened : (u.exch x).opened = (s.exch x).opened
  mode : (u.link x).mode = (s.link x).mode
  period : (u.link x).period = (s.link x).period
  phase : (u.link x).phase = (s.link x).phase
  recovering : (u.link x).health = .recovering → (s.link x).health = .recovering

namespace Exchanged

variable {x : LinkNo} {s u v : State}

theorem refl (x : LinkNo) (s : State) : Exchanged x s s := ⟨rfl, rfl, rfl, rfl, rfl, id⟩

theorem trans (a : Exchanged x s u) (b : Exchanged x u v) : Exchanged x s v where
  frame := by rw [b.frame, a.frame]
  opened := b.opened.trans a.opened
  mode := b.mode.trans a.mode
  period := b.period.trans a.period
  phase := b.phase.trans a.phase
  recovering k := a.recovering (b.recovering k)

/-- What leaves link records and exchange states. -/
theorem of_same (frame : u = { s with cle := u.cle, cp := u.cp }) (links : u.cle.links = s.cle.links)
    (exch : u.cle.exch = s.cle.exch) : Exchanged x s u := by
  have link : u.link x = s.link x := by rw [State.link, links]; rfl
  exact ⟨frame, by rw [State.exch, exch]; rfl, by rw [link], by rw [link], by rw [link], by rw [link]; exact id⟩

theorem record (k : Exchanged x s u) (y : LinkNo) : u.record y = s.record y := by rw [k.frame]; rfl

end Exchanged

section
variable (x : LinkNo) (s : State)

/-! ## The parts (R95 to R102) -/

theorem exchanged_updateLink (f : Link → Link) (mode : (f (s.link x)).mode = (s.link x).mode := by rfl)
    (period : (f (s.link x)).period = (s.link x).period := by rfl)
    (phase : (f (s.link x)).phase = (s.link x).phase := by rfl)
    (health : (f (s.link x)).health = .recovering → (s.link x).health = .recovering := by exact id) :
    Exchanged x s (updateLink x f s) := by
  have link : (updateLink x f s).link x = f (s.link x) := State.link_setLink_same ..
  exact ⟨rfl, rfl, by rw [link, mode], by rw [link, period], by rw [link, phase], by rw [link]; exact health⟩

theorem exchanged_setExch (e : Exchange) (opened : e.opened = (s.exch x).opened) : Exchanged x s (s.setExch x e) where
  frame := rfl
  opened := by rw [State.exch_setExch, if_pos rfl, opened]
  mode := rfl
  period := rfl
  phase := rfl
  recovering := id

/-- What acts on the Control Port alone, such as a raise. -/
theorem Exchanged.of_port {u : State} (k : u = { s with cp := u.cp }) : Exchanged x s u :=
  .of_same (by rw [k]) (by rw [k]) (by rw [k])

variable (t : Time)

theorem exchanged_recomputeStop : Exchanged x s (recomputeStop t x s) :=
  .of_same (by rw [recomputeStop_frame]) (by rw [recomputeStop_frame]) (by rw [recomputeStop_frame])

theorem exchanged_setHealth {h : Health} (ne : h ≠ .recovering) : Exchanged x s (setHealth t x h s) := by
  unfold setHealth
  split
  · exact .refl x s
  · exact ((exchanged_updateLink x s _ (health := by exact fun k => absurd k ne)).trans
      (.of_port x _ (raiseCrane_port ..))).trans (exchanged_recomputeStop x _ t)

theorem exchanged_enterLost (noTest : (s.link x).mode ≠ .test) : Exchanged x s (enterLost t x s) := by
  have lost := (exchanged_updateLink x s fun l => { l with score := 255, recovery := 0 }).trans
    (exchanged_setHealth x _ t (h := .lost) (by decide))
  have steady : ∀ u : State, (u.link x).mode ≠ .test → abortTest t x u = u := by
    intro u k
    unfold abortTest
    split
    · rename_i mode _
      exact absurd mode k
    · rfl
  rw [enterLost, steady _ (lost.mode ▸ noTest)]
  exact lost

theorem healthOf_ne_recovering (n : Nat) : healthOf n ≠ .recovering := by
  unfold healthOf
  split
  · decide
  · split
    · decide
    · split <;> decide

theorem exchanged_scoreOutcome (success : Bool) (noTest : (s.link x).mode ≠ .test)
    (settled : (s.link x).health ≠ .recovering) : Exchanged x s (scoreOutcome t x success s) := by
  unfold scoreOutcome
  split
  · exact .refl x s
  · rename_i health
    exact absurd health settled
  · dsimp only
    split
    · exact exchanged_enterLost x s t noTest
    · exact (exchanged_updateLink x s _).trans (exchanged_setHealth x _ t (healthOf_ne_recovering _))

theorem exchanged_takeStatus (st : CraneStatus) : Exchanged x s (takeStatus t x st s) := by
  have taken := (exchanged_updateLink x s fun l => { l with latest := some st }).trans (exchanged_recomputeStop x _ t)
  have offered : ∀ m u, Exchanged x u (offerNotice m u) := fun m u => .of_port x u (offerNotice_port m u)
  unfold takeStatus
  dsimp only
  split
  · refine taken.trans ?_
    unfold offerCraneAlarm
    split
    · exact exchanged_updateLink x _ _
    · split
      · exact (offered _ _).trans (exchanged_updateLink x _ _)
      · exact offered _ _
  · exact taken

/-- R97 to R102: the settlement of an exchange. -/
theorem exchanged_settle (e : Exchange) (result : CellResult) (noTest : (s.link x).mode ≠ .test)
    (settled : (s.link x).health ≠ .recovering) {w : Handover} (record : s.record x = some w) (single : w.state ≠ .dual)
    (unforced : w.forced = false) : Exchanged x s (settle t x e result s) := by
  have untested : ∀ u : State, (u.link x).mode ≠ .test → settleTest t x e u = u := by
    intro u k
    unfold settleTest
    split
    · exact absurd ‹_› k
    · exact absurd ‹_› k
    · rfl
  have kept : ∀ u : State, u.record x = some w → settleHandover t x e u = u := by
    intro u k
    rw [settleHandover, k]
    dsimp only
    split
    · exact absurd ‹_› single
    · simp [unforced]
    · rfl
  have counted := exchanged_updateLink x s fun l =>
    { l with outcomes := l.outcomes.count result, farEnd := !(result == .success) }
  have scored := counted.trans (exchanged_scoreOutcome x _ t (result == .success) (counted.mode ▸ noTest)
    fun k => settled (counted.recovering k))
  unfold settle
  dsimp only
  rw [untested _ (counted.mode ▸ noTest), kept _ ((scored.record x).trans record)]
  exact scored

/-! ## Judgement and settlement at the close of a slot of the frame in progress -/

variable {r : SlotRecord} (current : r.stale = false)
include current

theorem setFrameExch_current (e : Exchange) : setFrameExch r x e s = s.setExch x e := by simp [setFrameExch, current]

theorem frameExch_current : frameExch r s x = s.exch x := by simp [frameExch, current]

/-- R94, R95: a PRIMARY cell completes no handover. -/
theorem exchanged_judgeCell (h : HeadNo) : Exchanged x s (judgeCell r x .primary h s) := by
  unfold judgeCell
  simp only [setFrameExch_current x _ current, frameExch_current x _ current]
  split
  · exact exchanged_setExch x s _ (by rfl)
  · rw [if_neg (by simp [completes])]
    exact (exchanged_setExch x s _ (by rfl)).trans (exchanged_takeStatus x _ _ _)

theorem exchanged_settleAtClose (noTest : (s.link x).mode ≠ .test) (settled : (s.link x).health ≠ .recovering)
    {w : Handover} (record : s.record x = some w) (single : w.state ≠ .dual) (unforced : w.forced = false) :
    Exchanged x s (settleAtClose r x s) := by
  unfold settleAtClose
  simp only [setFrameExch_current x _ current, frameExch_current x _ current]
  split
  · exact .refl x s
  · split
    · exact .refl x s
    · exact (exchanged_setExch x s _ (by rfl)).trans (exchanged_settle x _ r.time _ _ noTest settled record single unforced)

end

/-- R94 to R102: the exchange of a link whose PRIMARY cell closes in the slot. -/
theorem exchanged_closeExchange {s u : State} {o : OpenSlot} {h : HeadNo} {x : LinkNo} {w : Handover}
    (only : OnlyEntry s o h) (cell : (o.entries.get h).cell = .crane x .primary)
    (noTest : (u.link x).mode ≠ .test) (settled : (u.link x).health ≠ .recovering)
    (record : u.record x = some w) (single : w.state ≠ .dual) (unforced : w.forced = false) :
    Exchanged x u (closeExchange o.record x u) := by
  have stale : o.record.stale = false := only.current.1
  rw [closeExchange, only.craneHeads_own cell, only.craneHeads_none (role := .target) (by rw [cell]; nofun)]
  split
  · exact .refl x u
  · have judged : Exchanged x u (judgeCell o.record x .primary h u) := exchanged_judgeCell x u stale h
    exact judged.trans (exchanged_settleAtClose x _ stale (judged.mode ▸ noTest) (fun k => settled (judged.recovering k))
      ((judged.record x).trans record) single unforced)

/-! ## The evaluation of a link whose CRANE cell closes (R53, R103) -/

section
variable {s : State} {x : LinkNo} {h : HeadNo} {v : Handover} (record : s.record x = some v) (single : v.state ≠ .dual)
  (unforced : v.forced = false)
include record single unforced

/-- R53, R103: a LOST link begins afresh. -/
theorem coverLink_lost {heads : List HeadNo} (lost : (s.link x).health = .lost) : coverLink x heads v s =
    s.setRecord x (some { v with candidate := none, trigger := 0, state := .settled }) := by
  unfold coverLink
  dsimp only
  rw [if_neg (by simp [single, unforced]), if_pos (.inl lost)]
  exact updateRecord_eq record _

omit record in
/-- R53, R54: a link in STANDBY or SERVICE is evaluated where its serving head has an effective score. -/
theorem coverLink_serving (serving : servingHead s x = some h) (mode : (s.link x).mode = .standby ∨ (s.link x).mode = .service)
    (health : (s.link x).health = .good ∨ (s.link x).health = .warned ∨ (s.link x).health = .degraded) :
    coverLink x [h] v s = if (v.quality h).isSome = true then evaluate x h v s else s := by
  have fit := evaluable_iff.mpr ⟨health, mode⟩
  unfold coverLink
  dsimp only
  rw [if_neg (by simp [single, unforced]), if_neg (by rcases health with e | e | e <;> simp [e]), serving]
  simp [fit]

end

/-- The health that is neither LOST nor RECOVERING is one of the three read from the score (R101). -/
theorem health_fit {h : Health} (lost : h ≠ .lost) (recovering : h ≠ .recovering) :
    h = .good ∨ h = .warned ∨ h = .degraded := by
  cases h <;> simp_all

/-! ## The whole close -/

section
variable {s : State} {o : OpenSlot} {h : HeadNo} {x : LinkNo} (only : OnlyEntry s o h)
include only

/-- R41, R48: the close of a slot whose one entry is a LISTEN cell. -/
theorem closeSlot_listen (cell : (o.entries.get h).cell = .listen x) :
    closeSlot s = advanceSlot o (measureHead o.record h (slotEnded s)) := by
  have other : ∀ y role, (o.entries.get h).cell ≠ .crane y role := by
    rw [cell]
    exact nofun
  rw [only.closes (by rw [cell]; rfl), forLinks_idle fun y => only.closeExchange_other (other y),
    forLinks_idle fun y => only.evaluateLink_other (other y)]

/-- R41, R48, R53: the close of a slot whose one entry is a CRANE cell of link `x`. -/
theorem closeSlot_crane {role : Role} (cell : (o.entries.get h).cell = .crane x role) : closeSlot s =
    advanceSlot o (evaluateLink o.record x (measureHead o.record h (closeExchange o.record x (slotEnded s)))) := by
  have other : ∀ y, y ≠ x → ∀ role, (o.entries.get h).cell ≠ .crane y role := by
    rw [cell]
    rintro y ne _ ⟨⟩
    exact ne rfl
  rw [only.closes (by rw [cell]; rfl), forLinks_only x fun y ne => only.closeExchange_other (other y ne),
    forLinks_only x fun y ne => only.evaluateLink_other (other y ne)]

/-- R53: the evaluation of the link of a PRIMARY cell. -/
theorem evaluateLink_own (cell : (o.entries.get h).cell = .crane x .primary) {u : State} {v : Handover}
    (record : u.record x = some v) (fresh : (u.exch x).opened = false) :
    evaluateLink o.record x u = coverLink x [h] v u := by
  have stale : o.record.stale = false := only.current.1
  rw [evaluateLink, record]
  dsimp only
  rw [if_neg (by simp [openedMeanwhile, fresh, stale]), only.craneHeads_own cell,
    only.craneHeads_none (role := .target) (by rw [cell]; nofun)]
  rfl

end

/-- A score of a head is a valid quality of it in the record (R52). -/
theorem score_valid {s : State} {x : LinkNo} {h : HeadNo} {v : Handover} :
    (∃ e, Score (s.setRecord x (some v)) x h e) ↔ (v.quality h).isSome = true := by
  simp only [score_iff, effectiveScore, State.record_setRecord_same, Option.bind_some]
  cases v.quality h <;> simp

/-- From `s` to `u` the exchange of link `x` has been handled and its window measured, which left record `v`: what the
link's evaluation then finds (R53). -/
structure Measuring (s : State) (x : LinkNo) (v : Handover) (u : State) : Prop where
  fs : u.fs = s.fs
  heads : u.hp.heads = s.hp.heads
  cov : u.cov = (s.setRecord x (some v)).cov
  mode : (u.link x).mode = (s.link x).mode
  period : (u.link x).period = (s.link x).period
  phase : (u.link x).phase = (s.link x).phase
  recovering : (u.link x).health = .recovering → (s.link x).health = .recovering

/-- The close of a slot whose one entry is a PRIMARY cell of an unforced link, not in DUAL, on a head in service: exchange
and measurement, then the evaluation (R41, log entry 10). -/
theorem closeSlot_covers {s : State} {o : OpenSlot} {h : HeadNo} {x : LinkNo} {w : Handover}
    (crane : OneCraneCell s o h x .primary) (service : inService s h = true) (record : s.record x = some w)
    (single : w.state ≠ .dual) (unforced : w.forced = false) :
    ∃ u, Measuring s x (measured s.cov.settings.filter (levelOf (o.entries.get h)) h w) u ∧ closeSlot s = advanceSlot o
      (coverLink x [h] (measured s.cov.settings.filter (levelOf (o.entries.get h)) h w) u) := by
  have only := crane.only.toOnlyEntry
  have noTest : (s.link x).mode ≠ .test := by rcases crane.mode with e | e <;> simp [e]
  have settled : (s.link x).health ≠ .recovering := by rcases crane.health with e | e | e <;> simp [e]
  have exchanged : Exchanged x (slotEnded s) (closeExchange o.record x (slotEnded s)) :=
    exchanged_closeExchange only crane.cell noTest settled record single unforced
  rw [closeSlot_crane only crane.cell]
  generalize closeExchange o.record x (slotEnded s) = e at exchanged
  have fresh : (e.exch x).opened = false := exchanged.opened.trans crane.fresh.1
  have serving : inService e h = true := by rw [exchanged.frame]; exact service
  have settings : e.cov = s.cov := by rw [exchanged.frame]; rfl
  have taken := measureHead_taken (x := x) (by rw [crane.cell]; rfl) e only.current.1 crane.only.awaited.symm serving fresh
  rw [(exchanged.record x).trans record, settings, Option.map_some] at taken
  rw [taken, evaluateLink_own only crane.cell (State.record_setRecord_same ..) fresh]
  refine ⟨e.setRecord x (some _), ⟨?_, ?_, ?_, exchanged.mode, exchanged.period, exchanged.phase, exchanged.recovering⟩, rfl⟩
  · rw [State.setRecord_fs, exchanged.frame]
    rfl
  · rw [State.setRecord_hp, exchanged.frame]
    rfl
  · unfold State.setRecord
    rw [settings]

namespace Measuring

variable {s u : State} {x : LinkNo} {v : Handover} (k : Measuring s x v u)
include k

theorem record : u.record x = some v := by
  rw [State.record, k.cov]
  exact State.record_setRecord_same s x _

theorem resv (y : LinkNo) : u.resv y = s.resv y := by
  rw [State.resv, k.fs]
  rfl

theorem qualifies (c : HeadNo) : qualifier u x c = qualifier (s.setRecord x (some v)) x c :=
  qualifier_congr (s := s.setRecord x (some v)) (by rw [k.fs]; rfl) k.heads k.cov x c

theorem search (h : HeadNo) : targetSearch u x h = targetSearch s x h :=
  targetSearch_congr (by rw [k.fs]) (by rw [k.fs]) k.heads k.period k.phase h

end Measuring

/-- A measurement and a restart act on handover records alone, an evaluation leaves the links' records. -/
theorem coverLink_links (x : LinkNo) (heads : List HeadNo) (v : Handover) (s : State) :
    (coverLink x heads v s).cle.links = s.cle.links := by
  unfold coverLink
  dsimp only
  split
  · rfl
  · split
    · rfl
    · split
      · split
        · exact (evaluating_evaluate x s _ v).links
        · rfl
      · rfl

theorem measureHead_frame (r : SlotRecord) (h : HeadNo) (s : State) : measureHead r h s =
    { s with cov := { s.cov with records := (measureHead r h s).cov.records } } := by
  unfold measureHead
  dsimp only
  split
  · split <;> rfl
  · rfl

theorem measureHead_other {r : SlotRecord} {h : HeadNo} {x y : LinkNo} (cell : measuredLink (r.entries.get h).cell = some x)
    (ne : y ≠ x) (s : State) : (measureHead r h s).record y = s.record y := by
  rw [measureHead, cell]
  split
  · split
    · rfl
    · rename_i e _ _
      cases e
      exact State.record_setRecord_other s _ ne.symm
  · rfl

end Sys2Proof.Machine

open Sys2Proof Sys2Proof.Machine

/-- The LISTEN part of O13. -/
theorem Sys2Proof.Machine.slotClose_measures {s : State} {o : OpenSlot} {h : HeadNo} {x : LinkNo} (only : OnlyEntry s o h)
    (cell : (o.entries.get h).cell = .listen x) : ∃ t, exec .slotClose s = .next t ∧
      t = { s with fs := { s.fs with now := t.fs.now, slotStarted := false }, hp := { s.hp with openSlot := none },
                   cov := { s.cov with records := t.cov.records } } ∧
      (∀ y, y ≠ x → t.record y = s.record y) ∧
      ((o.entries.get h).outOfService = true ∨ inService s h = false ∨ (s.exch x).opened = true →
        t.record x = s.record x) ∧
      ((o.entries.get h).outOfService = false → (o.entries.get h).awaited = true → inService s h = true →
        (s.exch x).opened = false →
        t.record x = (s.record x).map (measured s.cov.settings.filter (levelOf (o.entries.get h)) h)) := by
  have link : measuredLink (o.entries.get h).cell = some x := by rw [cell]; rfl
  have entry : measuredLink (o.record.entries.get h).cell = some x := by rw [record_entry, close_cell, link]
  have closed := closeSlot_listen only cell
  rw [advanceSlot_current only.current.1 only.slot.2] at closed
  have records : ∀ y, (closeSlot s).record y = (measureHead o.record h (slotEnded s)).record y := by
    intro y
    rw [closed]
    rfl
  refine ⟨closeSlot s, whileRunning_running only.running, ?_, fun y ne => ?_, fun none => ?_,
    fun inside awaited service fresh => ?_⟩
  · rw [closed, measureHead_frame]
    rfl
  · rw [records, measureHead_other entry ne]
    rfl
  · rw [records, measureHead_none link (slotEnded s) none]
    rfl
  · rw [records, measureHead_taken link (slotEnded s) only.current.1 ⟨inside, awaited⟩ service fresh]
    exact State.record_setRecord_same ..

/-- Settles O13: the LISTEN part above; for a CRANE cell the branches of the evaluation that follows exchange and
measurement. -/
theorem slotCloseMeasuresAndEvaluates : Obligations.SlotCloseMeasuresAndEvaluates := by
  refine ⟨fun s o h x => slotClose_measures, fun s o h x w v crane service serving record single unforced _ hv => ?_⟩
  obtain ⟨e, found, closed⟩ := closeSlot_covers crane service record single unforced
  rw [← hv] at found closed
  have frame := measured_frame s.cov.settings.filter (levelOf (o.entries.get h)) h w
  rw [← hv] at frame
  have single' : v.state ≠ .dual := by rw [frame]; exact single
  have unforced' : v.forced = false := by rw [frame]; exact unforced
  have links := coverLink_links x [h] v e
  rw [advanceSlot_current crane.only.current.1 crane.only.slot.2] at closed
  have link : (closeSlot s).link x = e.link x := by
    rw [closed]
    exact congrArg (Vector.get · x) links
  have resv : (closeSlot s).resv x = (coverLink x [h] v e).resv x := by rw [closed]; rfl
  have window : (closeSlot s).record x = (coverLink x [h] v e).record x := by rw [closed]; rfl
  refine ⟨closeSlot s, _, whileRunning_running crane.only.running, rfl, fun lost => ?_, fun kept => ?_⟩
  · rw [link] at lost
    rw [resv, window, coverLink_lost found.record single' unforced' lost]
    exact ⟨found.resv x, State.record_setRecord_same ..⟩
  rw [link] at kept
  have health := health_fit kept fun k => by
    have := found.recovering k
    rcases crane.health with fit | fit | fit <;> simp [fit] at this
  have here : servingHead e x = some h := by rw [servingHead, found.resv]; exact serving
  have covers := coverLink_serving single' unforced' here (found.mode ▸ crane.mode) health
  rw [resv, window, link]
  refine ⟨fun none => ?_, fun valid none => ?_, fun q n limit qualifies hn hl => ?_⟩
  · rw [covers, if_neg fun valid => (score_valid.mpr valid).elim none]
    exact ⟨found.resv x, found.record⟩
  · have unqualified : qualifier e x h = .none := by
      rw [found.qualifies]
      exact Option.eq_none_iff_forall_ne_some.mpr fun q k => none q (qualifier_iff.mpr k)
    rw [covers, if_pos (score_valid.mp valid), evaluate_unqualified found.record unqualified]
    exact ⟨found.resv x, State.record_setRecord_same ..⟩
  · have qualified : qualifier e x h = some q := (found.qualifies h).trans (qualifier_iff.mp qualifies)
    rw [covers, if_pos (quality_of_qualifier found.record qualified)]
    have count : n = nextTrigger v q := by rw [hn, frame]; rfl
    have threshold : limit = thresholdFor e (e.link x).health := by rw [hl, thresholdFor, found.cov]; rfl
    obtain ⟨below, reached⟩ := evaluate_outcome found.record qualified
    rw [count, threshold]
    refine ⟨fun early => ?_, fun due => ?_⟩
    · rw [← found.resv]
      exact below early
    · obtain ⟨admitted, blocked⟩ := reached due
      refine ⟨fun p target => ?_, fun noTarget => ?_⟩
      · rw [← found.resv]
        exact admitted p (targetFound_iff.mpr ((found.search q).trans (targetFound_iff.mp target)))
      · rw [← found.resv]
        have same : v.blocked = w.blocked := by rw [frame]
        rw [← same]
        exact blocked (noTarget_iff.mpr ((found.search q).trans (noTarget_iff.mp noTarget)))
end

section
/-! SUPPORT. What the handling of crane links and heads leaves of the command pool (R81): the lists, the CLOSED links and
the count of free entries. -/

namespace Sys2Proof.Machine

/-! ## What the pool law reads -/

/-- What the pool law reads of a link: its list, and whether it is CLOSED (R60, R81). -/
@[simp] def Link.stock (l : Link) : List CraneEntry × Bool := (l.list, decide (l.mode = .closed))

/-- What the pool law reads of the machine: the free entries, and the stock of each link. -/
def stock (s : State) : Nat × (LinkNo → List CraneEntry × Bool) := (s.cle.poolFree, fun x => (s.link x).stock)

/-- The pool law reads no more of the machine than its stock. -/
theorem PoolLaw.of_stock {s u : State} (same : stock u = stock s) (law : PoolLaw s) : PoolLaw u := by
  obtain ⟨free, links⟩ := Prod.mk.inj same
  have list : ∀ x, (u.link x).list = (s.link x).list := fun x => congrArg Prod.fst (congrFun links x)
  have closed : ∀ x, (u.link x).mode = .closed → (s.link x).mode = .closed :=
    fun x k => (decide_eq_decide.mp (congrArg Prod.snd (congrFun links x))).mp k
  constructor
  · unfold listTotal
    simp only [list, free]
    exact law.total
  · intro x
    rw [list]
    exact law.limit x
  · intro x k
    rw [list]
    exact law.closed x (closed x k)

/-! ## Plain updates -/

section
variable (s : State)

/-- What leaves the Crane Link Engine leaves its stock. -/
theorem stock_of_cle {s u : State} (k : u.cle = s.cle) : stock u = stock s := by
  unfold stock State.link
  rw [k]

theorem stock_setLink {x : LinkNo} {l : Link} (k : l.stock = (s.link x).stock) : stock (s.setLink x l) = stock s := by
  refine Prod.ext rfl (funext fun y => ?_)
  show ((s.setLink x l).link y).stock = (s.link y).stock
  rw [State.link_setLink]
  split
  · subst y; exact k
  · rfl

/-- An update of a link record, by default one that leaves list and mode. -/
theorem stock_updateLink (x : LinkNo) (f : Link → Link)
    (k : (f (s.link x)).stock = (s.link x).stock := by exact rfl) : stock (updateLink x f s) = stock s :=
  stock_setLink s k

@[simp] theorem stock_updateRecord (x : LinkNo) (f : Handover → Handover) : stock (updateRecord x f s) = stock s := rfl

@[simp] theorem stock_setHead (h : HeadNo) (r : HeadRecord) : stock (s.setHead h r) = stock s := rfl

@[simp] theorem stock_setResv (x : LinkNo) (r : Held) : stock (s.setResv x r) = stock s := rfl

@[simp] theorem stock_setExch (x : LinkNo) (e : Exchange) : stock (s.setExch x e) = stock s := rfl

@[simp] theorem stock_setPrevExch (x : LinkNo) (e : Exchange) : stock (s.setPrevExch x e) = stock s := rfl

@[simp] theorem stock_setFrameExch (r : SlotRecord) (x : LinkNo) (e : Exchange) :
    stock (setFrameExch r x e s) = stock s := by
  unfold setFrameExch
  split <;> rfl

@[simp] theorem stock_raisePlain (t : Time) (f : Flag) : stock (raisePlain t f s) = stock s :=
  stock_of_cle (raise_cle ..)

@[simp] theorem stock_raiseCrane (t : Time) (x : LinkNo) : stock (raiseCrane t x s) = stock s :=
  stock_of_cle (by rw [raiseCrane_port])

@[simp] theorem stock_raiseListLow (t : Time) (x : LinkNo) : stock (raiseListLow t x s) = stock s :=
  stock_of_cle (by rw [raiseListLow_port])

@[simp] theorem stock_raiseHead (t : Time) (h : HeadNo) : stock (raiseHead t h s) = stock s :=
  stock_of_cle (by rw [raiseHead_port])

@[simp] theorem stock_offerNotice (m : Message) : stock (offerNotice m s) = stock s :=
  stock_of_cle (by rw [offerNotice_port])

@[simp] theorem stock_recomputeStop (t : Time) (x : LinkNo) : stock (recomputeStop t x s) = stock s := by
  rw [recomputeStop_frame]
  rfl

/-- A part of a larger event, which acts only where it is due (log entry 8). -/
theorem stock_due {c : Prop} [Decidable c] {u : State} (k : stock u = stock s) :
    stock (if c then u else s) = stock s := by
  split
  · exact k
  · rfl

theorem stock_forEach {α : Type} (l : List α) {f : α → State → State} (k : ∀ a s, stock (f a s) = stock s) :
    stock (forEach l f s) = stock s :=
  forEach_view stock k l s

/-! ## Releases (R34, R65) -/

variable (t : Time) (x : LinkNo)

@[simp] theorem stock_testDrain (h : HeadNo) : stock (testDrain t h s) = stock s :=
  stock_of_cle (by rw [testDrain_frame])

@[simp] theorem stock_releasePrimary : stock (releasePrimary t x s) = stock s := stock_of_cle (releasePrimary_cle t x s)

@[simp] theorem stock_releaseTarget : stock (releaseTarget t x s) = stock s := stock_of_cle (releaseTarget_cle t x s)

@[simp] theorem stock_releaseAll : stock (releaseAll t x s) = stock s := stock_of_cle (releaseAll_cle t x s)

/-! ## Health, tests and outcomes (R97 to R104) -/

@[simp] theorem stock_setHealth (h : Health) : stock (setHealth t x h s) = stock s := by
  unfold setHealth
  split
  · rfl
  · rw [stock_recomputeStop, stock_raiseCrane]
    exact stock_updateLink s x _

/-- R100: a test that is aborted leaves its link open. -/
@[simp] theorem stock_abortTest : stock (abortTest t x s) = stock s := by
  unfold abortTest
  split
  · rename_i mode _
    rw [stock_raiseCrane, stock_updateLink s x _ (by simp [mode])]
  · rfl

@[simp] theorem stock_enterLost : stock (enterLost t x s) = stock s := by
  rw [enterLost, stock_abortTest, stock_setHealth]
  exact stock_updateLink s x _

/-- R99: a test that is complete leaves its link open. -/
@[simp] theorem stock_countTestExchange (errors : Nat) : stock (countTestExchange t x errors s) = stock s := by
  unfold countTestExchange
  split
  · rename_i mode _
    dsimp only
    split
    · rw [stock_raiseCrane, stock_updateLink s x _ (by simp [mode])]
    · exact stock_updateLink s x _
  · rfl

@[simp] theorem stock_settleTest (e : Exchange) : stock (settleTest t x e s) = stock s := by
  unfold settleTest
  split
  · split
    · exact stock_countTestExchange s t x _
    · exact stock_countTestExchange _ t x _
  · exact stock_countTestExchange s t x _
  · rfl

/-- R104: a recovery takes a SERVICE link to STANDBY, and none from or to CLOSED. -/
@[simp] theorem stock_stepRecovery (success : Bool) : stock (stepRecovery t x success s) = stock s := by
  unfold stepRecovery
  split
  · dsimp only
    split
    · rw [stock_setHealth]
      refine stock_updateLink s x _ (Prod.ext rfl ?_)
      cases mode : (s.link x).mode <;> simp [mode]
    · exact stock_updateLink s x _
  · exact stock_enterLost s t x

@[simp] theorem stock_scoreOutcome (success : Bool) : stock (scoreOutcome t x success s) = stock s := by
  unfold scoreOutcome
  split
  · rfl
  · exact stock_stepRecovery s t x success
  · dsimp only
    split
    · exact stock_enterLost s t x
    · rw [stock_setHealth]
      exact stock_updateLink s x _

@[simp] theorem stock_offerCraneAlarm (code previous : Byte) (gantry : Word16) :
    stock (offerCraneAlarm t x code previous gantry s) = stock s := by
  unfold offerCraneAlarm
  split
  · exact stock_updateLink s x _
  · split
    · exact (stock_updateLink _ x _).trans (stock_offerNotice s _)
    · exact stock_offerNotice s _

@[simp] theorem stock_takeStatus (st : CraneStatus) : stock (takeStatus t x st s) = stock s := by
  have taken : stock (recomputeStop t x (updateLink x (fun l => { l with latest := some st }) s)) = stock s := by
    rw [stock_recomputeStop]
    exact stock_updateLink s x _
  unfold takeStatus
  dsimp only
  split
  · rw [stock_offerCraneAlarm, taken]
  · exact taken

/-! ## Handover steps (R109 to R119) -/

@[simp] theorem stock_unplace : stock (unplace t x s) = stock s := by simp [unplace]

@[simp] theorem stock_enterDual (p : Place) (forced : Bool) : stock (enterDual x p forced s) = stock s := by
  simp [enterDual]

@[simp] theorem stock_completeHandover : stock (completeHandover t x s) = stock s := by
  unfold completeHandover
  split
  · rfl
  · simp [promote]

@[simp] theorem stock_dropTarget : stock (dropTarget t x s) = stock s := by simp [dropTarget]

@[simp] theorem stock_attemptForced : stock (attemptForced x s) = stock s := by
  unfold attemptForced
  dsimp only
  split
  · simp
  · rfl

@[simp] theorem stock_emergencyMove : stock (emergencyMove t x s) = stock s := by
  unfold emergencyMove
  dsimp only
  split
  · simp
  · simp

@[simp] theorem stock_abandonHandover : stock (abandonHandover t x s) = stock s := by simp [abandonHandover]

@[simp] theorem stock_stepDual (w : Handover) : stock (stepDual t x w s) = stock s := by
  unfold stepDual
  split
  · exact stock_abandonHandover s t x
  · rfl

/-! ## Evaluation and measurement (R48, R53 to R56) -/

@[simp] theorem stock_startHandover (q : HeadNo) : stock (startHandover x q s) = stock s := by
  unfold startHandover
  split
  · exact stock_enterDual s x _ false
  · rfl

@[simp] theorem stock_evaluate (c : HeadNo) (w : Handover) : stock (evaluate x c w s) = stock s := by
  unfold evaluate
  split
  · rfl
  · dsimp only
    split
    · rw [stock_startHandover, stock_updateRecord]
    · rfl

@[simp] theorem stock_evaluateLink (r : SlotRecord) : stock (evaluateLink r x s) = stock s := by
  have covered : ∀ heads w, stock (coverLink x heads w s) = stock s := by
    intro heads w
    unfold coverLink
    dsimp only
    split
    · rfl
    · split
      · rfl
      · split
        · exact stock_due s (stock_evaluate s x _ w)
        · rfl
  unfold evaluateLink
  split
  · rfl
  · split
    · rfl
    · split
      · rfl
      · exact covered _ _

@[simp] theorem stock_measureHead (r : SlotRecord) (h : HeadNo) : stock (measureHead r h s) = stock s := by
  unfold measureHead
  dsimp only
  split
  · split <;> rfl
  · rfl

/-! ## Judgement and settlement (R94 to R97) -/

@[simp] theorem stock_judgeCell (r : SlotRecord) (role : Role) (h : HeadNo) :
    stock (judgeCell r x role h s) = stock s := by
  unfold judgeCell
  dsimp only
  split
  · exact stock_setFrameExch s r x _
  · split <;> simp

@[simp] theorem stock_settleHandover (e : Exchange) : stock (settleHandover t x e s) = stock s := by
  unfold settleHandover
  split
  · rfl
  · split
    · exact stock_due s (stock_stepDual s t x _)
    · split
      · split
        · exact stock_unplace s t x
        · exact stock_attemptForced s x
      · rfl
    · rfl

@[simp] theorem stock_settle (e : Exchange) (result : CellResult) : stock (settle t x e result s) = stock s := by
  rw [settle, stock_settleHandover, stock_scoreOutcome, stock_settleTest]
  exact stock_updateLink s x _

@[simp] theorem stock_settleAtClose (r : SlotRecord) : stock (settleAtClose r x s) = stock s := by
  unfold settleAtClose
  dsimp only
  split
  · rfl
  · split
    · rfl
    · rw [stock_settle, stock_setFrameExch]

@[simp] theorem stock_settleAfterRelease : stock (settleAfterRelease t x s) = stock s := by
  unfold settleAfterRelease
  dsimp only
  split
  · rfl
  · split
    · rfl
    · rw [stock_settle, stock_setExch]

@[simp] theorem stock_closeExchange (r : SlotRecord) : stock (closeExchange r x s) = stock s := by
  unfold closeExchange
  split
  · rfl
  · split
    · rfl
    · rw [stock_settleAtClose, stock_forEach _ _ fun h s => stock_judgeCell s x r .target h,
        stock_forEach _ _ fun h s => stock_judgeCell s x r .primary h]

/-! ## Heads (R26 to R35, R114 to R120) -/

@[simp] theorem stock_loseHeadOfLink (h : HeadNo) : stock (loseHeadOfLink t h x s) = stock s := by
  unfold loseHeadOfLink
  split
  · rw [stock_settleAfterRelease]
    split
    · exact stock_completeHandover s t x
    · exact stock_emergencyMove s t x
  · exact stock_due s (by simp)

@[simp] theorem stock_drainStartOfLink (h : HeadNo) : stock (drainStartOfLink t h x s) = stock s := by
  unfold drainStartOfLink
  split
  · split
    · simp
    · split
      · rfl
      · exact stock_attemptForced s x
  · exact stock_due s (by simp)

@[simp] theorem stock_drainEnded (h : HeadNo) : stock (drainEnded h s) = stock s :=
  stock_forEach s _ fun _ s => stock_due s rfl

end

section
variable (s : State) (t : Time) (h : HeadNo)

@[simp] theorem stock_headDown (state : HeadState) : stock (headDown t h state s) = stock s := by
  unfold headDown
  split
  · have lost : ∀ u, stock (unhome h u) = stock u := fun _ => rfl
    rw [loseHead, stock_raiseHead, lost, forLinks, stock_forEach _ _ fun x s => stock_loseHeadOfLink s t x h]
    rfl
  · rw [stock_raiseHead, stock_setHead]

@[simp] theorem stock_expireDrain : stock (expireDrain t h s) = stock s := by simp [expireDrain]

@[simp] theorem stock_tickDrain : stock (tickDrain t h s) = stock s := by
  unfold tickDrain
  dsimp only
  split
  · split
    · exact stock_expireDrain s t h
    · rfl
  · rfl

@[simp] theorem stock_missStatus : stock (missStatus t h s) = stock s := by
  unfold missStatus
  dsimp only
  split
  · rw [stock_headDown, stock_setHead]
  · rfl

@[simp] theorem stock_closeStatusWindow : stock (closeStatusWindow t h s) = stock s := by
  unfold closeStatusWindow
  split
  · rfl
  · exact stock_missStatus s t h

@[simp] theorem stock_takeStatusRecord (serial : Word32) (fault : Bool) :
    stock (takeStatusRecord t h serial fault s) = stock s := by
  have serialTaken : stock (takeSerial t h serial s) = stock s := by
    unfold takeSerial
    split
    · rfl
    · rw [stock_raiseHead, stock_setHead]
  have counted : ∀ u, stock (countStatus h u) = stock u := by
    intro u
    unfold countStatus
    dsimp only
    split <;> rfl
  have shown : ∀ u r, stock (raiseHead t h (u.setHead h r)) = stock u := by simp
  have acted : ∀ u, stock (statusState t h fault u) = stock u := by
    intro u
    unfold statusState
    split
    · exact stock_due u (shown u _)
    · exact stock_headDown u t h _
    · exact stock_headDown u t h _
    · exact stock_headDown u t h _
    · exact shown u _
    · rfl
  rw [takeStatusRecord, acted, counted, serialTaken]

@[simp] theorem stock_startDrain : stock (startDrain t h s) = stock s := by
  rw [startDrain, stock_testDrain, forLinks, stock_forEach _ _ fun x s => stock_drainStartOfLink s t x h, stock_setHead]

@[simp] theorem stock_takeReturn (mf : Word16) (frame slot result level : Byte) (bytes : List Byte) :
    stock (takeReturn h mf frame slot result level bytes s) = stock s := by
  unfold takeReturn
  split
  · rfl
  · dsimp only
    split
    · split <;> rfl
    · rfl

@[simp] theorem stock_headByte (b : Byte) : stock (headByte h b s) = stock s := by
  have message : ∀ m u, stock (takeHeadMessage h m u) = stock u := by
    intro m u
    unfold takeHeadMessage
    split
    · rfl
    · exact stock_takeReturn u h _ _ _ _ _ _
    · exact stock_takeStatusRecord u u.now h _ _
  exact stock_forEach (setHeadRx h _ s) _ message

end

end Sys2Proof.Machine
end

section
/-! The command pool (R81) through every event and every command. -/

namespace Sys2Proof.Machine

/-! ## Entries move between the pool and one list (R81) -/

/-- The total over all lists after one link record is written. -/
theorem listTotal_put {s u : State} {x : LinkNo} {l : Link} (links : u.cle.links = put s.cle.links x l) :
    listTotal u + (s.link x).list.length = listTotal s + l.list.length := by
  unfold listTotal
  rw [← Fin.sum_univ_def, ← Fin.sum_univ_def, ← Finset.add_sum_erase _ _ (Finset.mem_univ x),
    ← Finset.add_sum_erase Finset.univ (fun y => (s.link y).list.length) (Finset.mem_univ x)]
  have own : u.link x = l := by rw [link_of_put links, if_pos rfl]
  have others : ∀ y ∈ Finset.univ.erase x, (u.link y).list.length = (s.link y).list.length := by
    intro y mem
    rw [link_of_put links, if_neg (Finset.ne_of_mem_erase mem).symm]
  rw [Finset.sum_congr rfl others, own]
  omega

/-- The pool law is kept where one list changes, by entries that come from the pool or return to it. -/
theorem PoolLaw.of_moved {s u : State} (law : PoolLaw s) {x : LinkNo} {l : Link}
    (links : u.cle.links = put s.cle.links x l)
    (moved : u.cle.poolFree + l.list.length = s.cle.poolFree + (s.link x).list.length)
    (limit : l.list.length ≤ Config.listLimit) (closed : l.mode = .closed → l.list = []) : PoolLaw u where
  total := by
    have total := listTotal_put links
    have := law.total
    omega
  limit y := by
    rw [link_of_put links]
    split
    · exact limit
    · exact law.limit y
  closed y := by
    rw [link_of_put links]
    split
    · exact closed
    · exact law.closed y

theorem PoolLaw.of_cle {s u : State} (law : PoolLaw s) (k : u.cle = s.cle) : PoolLaw u := law.of_stock (stock_of_cle k)

theorem PoolLaw.due {s u : State} {c : Prop} [Decidable c] (law : PoolLaw s) (k : PoolLaw u) :
    PoolLaw (if c then u else s) := by
  split
  · exact k
  · exact law

/-- What the Registry does touches no link. -/
theorem RegistryStep.stock {s u : State} (k : RegistryStep s u) : stock u = stock s := stock_of_cle (by rw [k.frame])

/-! ## Air time -/

theorem stock_startFrame (s : State) : stock (startFrame s) = stock s := by
  have opened : stock (frameOpened s) = stock s := by
    cases h : atBoundary s
    · rw [frameOpened_plain h]
      rfl
    · rw [frameOpened_boundary h, openMultiframe_frame]
      rfl
  have mapped : ∀ u, stock (replaceMap u) = stock u := fun _ => rfl
  have beaconed : ∀ u, stock (assembleBeacon u) = stock u := fun _ => rfl
  exact (startFrame_aged s).stock.trans ((beaconed _).trans ((mapped _).trans opened))

section
variable {s : State} (law : PoolLaw s)
include law

/-- R88: the command that a burst consumes leaves its list for the pool. -/
theorem pool_composeCommand (t : Time) (x : LinkNo) : PoolLaw (composeCommand t x s).1 := by
  unfold composeCommand
  dsimp only
  split
  · exact law
  · exact law
  · rename_i c rest _ list
    have limit := law.limit x
    rw [list, List.length_cons] at limit
    have drawn : ∀ u : State, u.cle.links = put s.cle.links x { s.link x with list := rest, held := some c } →
        u.cle.poolFree = s.cle.poolFree + 1 → PoolLaw u := by
      intro u links free
      refine law.of_moved links ?_ (by dsimp only; omega) fun closed => ?_
      · show u.cle.poolFree + rest.length = _
        rw [free, list, List.length_cons]
        omega
      · have empty := law.closed x closed
        rw [list] at empty
        cases empty
    split
    · refine .of_stock (stock_raiseListLow _ t x) ?_
      exact drawn _ rfl rfl
    · exact drawn _ rfl rfl
  · exact law.of_stock (stock_setExch s x _)
  · exact law

theorem pool_composeDown (t : Time) (x : LinkNo) (role : Role) (h : HeadNo) : PoolLaw (composeDown t x role h s).1 := by
  have snapshot : PoolLaw (takeSnapshot t x s) := law.of_stock (stock_due s (stock_updateLink s x _))
  have tested : ∀ u, stock (composeTest x u).1 = stock u := by
    intro u
    unfold composeTest
    split
    · rfl
    · exact (stock_setExch _ x _).trans (stock_updateLink u x _)
    · rfl
  have content : PoolLaw (composeContent t x (takeSnapshot t x s)).1 := by
    unfold composeContent
    dsimp only
    split
    · exact snapshot
    · split
      · exact snapshot.of_stock (tested _)
      · exact pool_composeCommand snapshot t x
      · exact snapshot
  exact content.of_stock (stock_setExch _ x _)

theorem pool_startCell (t : Time) (h : HeadNo) : PoolLaw (startCell t h s) := by
  unfold startCell
  dsimp only
  split
  · exact law.of_cle rfl
  · split
    case h_2 x role _ =>
      split
      · exact law.of_cle rfl
      · exact (pool_composeDown law t x role h).of_cle rfl
    all_goals exact law.of_cle rfl

theorem pool_startSlot : PoolLaw (startSlot s) := by
  unfold startSlot
  split
  · exact law
  · exact forHeads_keeps (P := PoolLaw) (fun h s law => pool_startCell law _ h) (law.of_cle (u := slotBegun s) rfl)

end

theorem stock_handOn (o : OpenSlot) (s : State) : stock (handOn o s) = stock s := by
  rw [handOn_eq, handOnLinks, forLinks, stock_forEach _ _ fun x s => stock_evaluateLink s x o.record, forHeads,
    stock_forEach _ _ fun h s => stock_measureHead s o.record h, forLinks,
    stock_forEach _ _ fun x s => stock_closeExchange s x o.record, (registryFrame_registryTakes _ o.record).frame,
    countClosed_frame]
  rfl

theorem stock_closeSlot (s : State) : stock (closeSlot s) = stock s := by
  have recorded : ∀ o u, stock (recordTaken o u) = stock u := by
    intro o u
    unfold recordTaken
    split
    · rfl
    · exact stock_handOn o u
  have framed : ∀ o u, stock (frameClosed o u) = stock u := by
    intro o u
    refine stock_due u ?_
    rw [closeFrame, forHeads, stock_forEach _ _ fun h s => stock_tickDrain s o.time h, forHeads,
      stock_forEach _ _ fun h s => stock_closeStatusWindow s o.time h]
  have advanced : ∀ o u, stock (advanceSlot o u) = stock u := by
    intro o u
    rw [advanceSlot_frame]
    rfl
  cases slot : s.hp.openSlot with
  | none =>
    simp only [closeSlot, slot]
  | some o =>
    rw [closeSlot_eq slot, advanced, framed, recorded]
    rfl

/-! ## Commands of the heads and the Coverage Unit -/

theorem stock_doCoverSet (k hy t w stop : Option Byte) (s : State) :
    stock (doCoverSet k hy t w stop s).1 = stock s := by
  rw [doCoverSet_frame]
  rfl

theorem stock_doHeadRestore (head : Byte) (s : State) : stock (doHeadRestore head s).1 = stock s := by
  have restored : ∀ h u, restoreHead h s = some u → stock u = stock s := by
    intro h u k
    unfold restoreHead at k
    split at k
    · rw [← Option.some.inj k, stock_setHead]
    · rw [← Option.some.inj k, cancelDrain, stock_drainEnded, stock_setHead]
    · rw [← Option.some.inj k]
    · cases k
    · cases k
  unfold doHeadRestore
  split
  · rfl
  · split
    · rfl
    · exact restored _ _ ‹_›

theorem stock_doHeadRetire (head : Byte) (s : State) : stock (doHeadRetire head s).1 = stock s := by
  have retired : ∀ h u, retireHead h s = some u → stock u = stock s := by
    intro h u k
    unfold retireHead at k
    split at k
    · rw [← Option.some.inj k, stock_startDrain]
    · rw [← Option.some.inj k, stock_setHead]
    · cases k
    · cases k
    · cases k
  unfold doHeadRetire
  split
  · rfl
  · split
    · rfl
    · exact retired _ _ ‹_›

/-! ## Crane commands -/

section
variable {s : State} (law : PoolLaw s)
include law

/-- R70: the link that opens was CLOSED, so its list was empty, and is. -/
theorem pool_openLink {x : LinkNo} (closed : (s.link x).mode = .closed) (terminal : Word32) (p : Place)
    (interlock : Word16) (lowMark : Nat) : PoolLaw (openLink x terminal p interlock lowMark s) := by
  rw [openLink_eq]
  refine law.of_moved rfl ?_ (Nat.zero_le _) fun _ => rfl
  rw [law.closed x closed]
  rfl

theorem pool_doCraneOpen (link : Byte) (terminal : Word32) (head period slot : Byte) (interlock : Word16)
    (lowMark : Byte) : PoolLaw (doCraneOpen link terminal head period slot interlock lowMark s).1 := by
  unfold doCraneOpen
  split
  · split
    · exact law
    · rename_i closed
      split
      · exact law
      · split
        · exact law
        · split
          · exact law
          · exact pool_openLink law (not_not.mp closed) terminal _ interlock _
  · exact law

/-- R72: the list of a link that closes returns to the pool. -/
theorem pool_closeLink (t : Time) (x : LinkNo) : PoolLaw (closeLink t x s) :=
  law.of_moved (closeLink_links t x s) (by rw [closeLink_poolFree]; rfl) (Nat.zero_le _) fun _ => rfl

theorem pool_doCraneClose (link : Byte) : PoolLaw (doCraneClose link s).1 := by
  unfold doCraneClose
  split
  · exact law
  · split
    · exact law
    · dsimp only
      exact pool_closeLink law s.now _

end

/-- R74: a mode is requested of open links alone, and none is CLOSED by it. -/
theorem modeAfter_open {l : Link} {service : Bool} {m : Mode} (k : modeAfter l service = some m) :
    l.mode ≠ .closed ∧ m ≠ .closed := by
  unfold modeAfter at k
  split at k
  · cases k
  · cases k
  · rename_i closed _
    cases k
    exact ⟨closed, by simp⟩
  · rename_i mode
    cases k
    simp [mode]
  · rename_i mode
    split at k
    · cases k
      simp [mode]
    · cases k

theorem stock_doCraneMode (link mode : Byte) (s : State) : stock (doCraneMode link mode s).1 = stock s := by
  unfold doCraneMode
  split
  · rfl
  · split
    · rfl
    · rename_i m k
      obtain ⟨was, is⟩ := modeAfter_open k
      exact stock_updateLink s _ _ (by simp [was, is])

theorem stock_doCraneInterlock (link : Byte) (word : Word16) (s : State) :
    stock (doCraneInterlock link word s).1 = stock s := by
  unfold doCraneInterlock
  split
  · rfl
  · split
    · rfl
    · exact stock_updateLink s _ _

theorem stock_doCraneTest (link : Byte) (n : Word16) (s : State) : stock (doCraneTest link n s).1 = stock s := by
  unfold doCraneTest
  split
  · rfl
  · dsimp only
    split
    · rename_i accepted
      exact stock_updateLink s _ _ (by simp [accepted.1])
    · rfl

theorem stock_doCraneRecover (link head : Byte) (s : State) : stock (doCraneRecover link head s).1 = stock s := by
  have recovering : ∀ x u, stock (recovered x u).1 = stock u := by
    intro x u
    rw [recovered, startRecovery, stock_setHealth]
    exact stock_updateLink u x _
  have placed : ∀ x p, stock (placeLink x p s) = stock s := by
    intro x p
    rw [placeLink, stock_updateRecord]
    exact stock_updateLink (s.setResv x _) x _
  unfold doCraneRecover
  split
  · rfl
  · split
    · rfl
    · split
      · rfl
      · split
        · rfl
        · split
          · split
            · rfl
            · split
              · rfl
              · split
                · rfl
                · exact (recovering _ _).trans (placed _ _)
          · exact recovering _ s

theorem stock_doCraneMove (link head : Byte) (s : State) : stock (doCraneMove link head s).1 = stock s := by
  unfold doCraneMove
  split
  · split
    · rfl
    · split
      · rfl
      · split
        · rfl
        · split
          · rfl
          · split
            · rfl
            · split
              · rfl
              · exact stock_enterDual s _ _ true
  · rfl

theorem stock_changeHold (t : Time) {f : State → State} {s : State} (k : stock (f s) = stock s) :
    stock (changeHold t f s) = stock s := by
  unfold changeHold
  dsimp only
  split
  · exact (stock_forEach _ _ fun x s => stock_abortTest s t x).trans k
  · exact k

section
variable {s : State} (law : PoolLaw s)
include law

/-- R82, R83: entries that fit leave the pool for the list of an open link. -/
theorem PoolLaw.of_drawn {u : State} {x : LinkNo} {n : Nat} {list : List CraneEntry} (opened : (s.link x).mode ≠ .closed)
    (fit : entriesFit s x n = true) (length : list.length = (s.link x).list.length + n)
    (links : u.cle.links = put s.cle.links x { s.link x with list := list })
    (free : u.cle.poolFree = s.cle.poolFree - n) : PoolLaw u := by
  unfold entriesFit at fit
  obtain ⟨limit, pool⟩ := Bool.and_eq_true_iff.mp fit
  have limit := of_decide_eq_true limit
  have pool := of_decide_eq_true pool
  refine law.of_moved links ?_ ?_ fun closed => absurd closed opened
  · rw [free, length]
    omega
  · rwa [length]

theorem pool_doCraneAppend (link : Byte) (es : List EntryVals) : PoolLaw (doCraneAppend link es s) := by
  unfold doCraneAppend
  split
  · exact law.of_stock (stock_raisePlain ..)
  · split
    · rename_i accepted
      obtain ⟨opened, fit⟩ := Bool.and_eq_true_iff.mp accepted
      exact law.of_drawn (bne_iff_ne.mp opened) fit (by simp) rfl rfl
    · refine law.of_stock ?_
      rw [refuseAppend, stock_raisePlain]
      exact stock_updateLink s _ _

theorem pool_doCraneSplice (link : Byte) (es : List EntryVals) : PoolLaw (doCraneSplice link es s).1 := by
  unfold doCraneSplice
  split
  · exact law
  · split
    · exact law
    · rename_i opened
      split
      · exact law.of_drawn opened ‹_› (by simp [Nat.add_comm]) rfl rfl
      · exact law

theorem pool_doCraneFlush (link : Byte) : PoolLaw (doCraneFlush link s).1 := by
  unfold doCraneFlush
  split
  · exact law
  · dsimp only
    split
    · exact law
    · exact law.of_moved rfl rfl (Nat.zero_le _) fun _ => rfl

/-! ## Quiet reset (R171) -/

theorem pool_closeLinks (t : Time) : PoolLaw (forLinks (closeIfOpen t) s) := by
  refine forLinks_keeps (fun x u law => ?_) law
  unfold closeIfOpen
  split
  · exact law
  · exact pool_closeLink law t x

theorem pool_quietBlocks : PoolLaw (quietBlocks s) := by
  have done : ∀ u, stock (quietDone u) = stock u := by
    intro u
    refine Prod.ext rfl (funext fun x => ?_)
    show ((quietDone u).link x).stock = (u.link x).stock
    rw [link_quietDone]
    rfl
  have begun : PoolLaw (quietHeads (quietPlans (raisePlain s.now .restarted (clearFlags s)))) :=
    (law.of_cle (u := clearFlags s) rfl).of_stock (stock_raisePlain (clearFlags s) s.now .restarted)
  rw [quietBlocks, quietReports_quietLinks]
  exact (pool_closeLinks begun _).of_stock (done _)

end

/-! ## The Control Port -/

section
variable {s : State} (law : PoolLaw s)
include law

theorem pool_carryOut (c : HostCmd) : PoolLaw (carryOut c s).1 := by
  cases c with
  | pollEvents | notifySet | identify | planCommit | planQuery | mapQuery | registryQuery | reportSet | reportQuery
  | fetchReports | fetchAlarms => exact law.of_cle rfl
  | quietReset => exact pool_quietBlocks law
  | planStage restart edits =>
    refine law.of_cle ?_
    rw [carryOut, doPlanStage]
    split <;> rfl
  | headRestore h => exact law.of_stock (stock_doHeadRestore h s)
  | headRetire h => exact law.of_stock (stock_doHeadRetire h s)
  | headQuery h => rw [carryOut, doHeadQuery_state]; exact law
  | coverSet k hy t w stop => exact law.of_stock (stock_doCoverSet k hy t w stop s)
  | craneOpen l term h p sl il low => exact pool_doCraneOpen law l term h p sl il low
  | craneClose l => exact pool_doCraneClose law l
  | craneMode l m => exact law.of_stock (stock_doCraneMode l m s)
  | craneQuery l => rw [carryOut, doCraneQuery_state]; exact law
  | craneAppend l es => exact pool_doCraneAppend law l es
  | craneSplice l es => exact pool_doCraneSplice law l es
  | craneFlush l => exact pool_doCraneFlush law l
  | craneInterlock l w => exact law.of_stock (stock_doCraneInterlock l w s)
  | craneTest l n => exact law.of_stock (stock_doCraneTest l n s)
  | craneRecover l h => exact law.of_stock (stock_doCraneRecover l h s)
  | craneMove l h => exact law.of_stock (stock_doCraneMove l h s)
  | quayHold code =>
    exact law.of_stock (stock_changeHold s.now (f := fun s => { s with cle := { s.cle with hostHold := code != 0#8 } }) rfl)
  | filterSet mask v =>
    refine law.of_cle ?_
    rw [carryOut, doFilterSet]
    split <;> rfl
  | profileSet p r f d e a g =>
    refine law.of_cle ?_
    rw [carryOut, doProfileSet]
    split <;> rfl
  | unitQuery n => rw [carryOut, doUnitQuery_state]; exact law
  | unitRelease n =>
    refine law.of_cle ?_
    rw [carryOut, doUnitRelease]
    split
    · rfl
    · dsimp only
      split <;> rfl
  | alarmAck n k =>
    refine law.of_cle ?_
    rw [carryOut, doAlarmAck]
    split
    · rfl
    · dsimp only
      split <;> rfl

theorem pool_perform (tag : Byte) (c : HostCmd) : PoolLaw (perform tag c s) := by
  cases c
  case craneAppend l es => exact pool_doCraneAppend law l es
  case quietReset => exact pool_quietBlocks (law.of_cle (u := quietQueue _ s) rfl)
  all_goals exact pool_carryOut (law.of_cle (u := queueReply _ s) rfl) _

theorem pool_takeFrame (f : Frame) : PoolLaw (takeFrame f s) := by
  unfold takeFrame
  split
  · exact pool_perform law f.tag _
  · refine law.of_cle ?_
    unfold takeUnknown
    split
    · exact raise_cle ..
    · rfl

end

theorem pool_takeWaiting (n : Nat) {s : State} (law : PoolLaw s) : PoolLaw (takeWaiting n s) := by
  induction n generalizing s with
  | zero => exact law
  | succ n ih =>
    unfold takeWaiting
    split
    · exact law
    · rename_i f rest _
      exact law.due (ih (pool_takeFrame (law.of_cle (u := { s with cp := { s.cp with inbound := rest } }) rfl) f))

section
variable {s : State} (law : PoolLaw s)
include law

theorem pool_accept (f : Frame) : PoolLaw (accept f s) := by
  unfold accept
  split
  · exact pool_takeWaiting _ (law.of_cle rfl)
  · exact law.of_cle (raise_cle ..)

theorem pool_hostCommand (tag : Byte) (c : HostCmd) : PoolLaw (hostCommand tag c s) := by
  unfold hostCommand
  split
  · exact pool_perform law tag c
  · exact pool_accept law _

theorem pool_frameError : PoolLaw (frameError s) := law.of_cle (raise_cle ..)

theorem pool_setRx (bytes : List Byte) : PoolLaw (setRx bytes s) := law.of_cle rfl

theorem pool_completeFrame (f : Frame) (check : Word16) : PoolLaw (completeFrame f check s) := by
  unfold completeFrame
  split
  · exact pool_accept law f
  · exact pool_frameError law

theorem pool_advanceRx (bytes : List Byte) : PoolLaw (advanceRx bytes s) := by
  unfold advanceRx
  split
  · split
    · exact pool_setRx law _
    · exact pool_frameError (pool_setRx law _)
  · split
    · unfold completeRx
      split
      · exact pool_completeFrame (pool_setRx law []) _ _
      · exact pool_setRx law _
    · exact pool_setRx law _
  · exact pool_setRx law _

theorem pool_receiveByte (b : Byte) (stopBit : Bool) : PoolLaw (receiveByte b stopBit s) := by
  unfold receiveByte
  split
  · exact law.due (pool_setRx law _)
  · exact law
  · exact pool_frameError (pool_setRx law [])
  · exact pool_advanceRx law _

theorem pool_endTransmission : PoolLaw (endTransmission s) := by
  have lowered : ∀ m u, stock (lowerPending m u) = stock u := by
    intro m u
    cases m
    case craneAlarm => exact stock_updateLink u _ _
    all_goals rfl
  have begun : stock (beginNext s) = stock s := by
    unfold beginNext
    split
    · exact lowered _ _
    · exact lowered _ _
    · rfl
  exact pool_takeWaiting _ (law.of_stock begun)

end

/-! ## Every step -/

theorem whileRunning_pool {f : State → State} {s t : State} (law : PoolLaw s) (k : PoolLaw (f s))
    (e : whileRunning f s = .next t) : PoolLaw t := by
  cases e
  exact law.due k

theorem exec_pool (i : Instr) {s t : State} (law : PoolLaw s) (e : exec i s = .next t) : PoolLaw t := by
  have plain : ∀ {f : State → State}, stock (f s) = stock s → whileRunning f s = .next t → PoolLaw t :=
    fun k => whileRunning_pool law (law.of_stock k)
  cases i
  case hardReset =>
    cases e
    exact poolLaw_reset.of_cle rfl
  case resetnRise =>
    cases e
    unfold resetRises
    split
    · exact law
    · exact poolLaw_reset.of_cle rfl
  case frameStart => exact plain (stock_startFrame s) e
  case slotStart => exact whileRunning_pool law (pool_startSlot law) e
  case slotClose => exact plain (stock_closeSlot s) e
  case unitBecomesPolling u => exact plain (stock_due s (registryStep_startPolling s u).stock) e
  case unitBecomesSilentByAge u => exact plain (stock_due s (registryStep_goSilent s s.now u).stock) e
  case unitBecomesGone u => exact plain (stock_due s (registryStep_goGone s s.now u).stock) e
  case pollAttemptsExhausted u => exact plain (stock_due s (registryStep_countUnanswered s s.now u).stock) e
  case headReturn h mf frame slot result level bytes => exact plain (stock_takeReturn s h mf frame slot result level bytes) e
  case headStatusRecord h serial fault => exact plain (stock_takeStatusRecord s s.now h serial fault) e
  case headLinkUp h serial fault => exact plain (stock_due s (stock_takeStatusRecord s s.now h serial fault)) e
  case headLinkGap h => exact plain (f := setHeadRx h []) rfl e
  case headLinkByteReceived h b => exact plain (stock_headByte s h b) e
  case headMissedAbsent h => exact plain (stock_due s (stock_missStatus s s.now h)) e
  case drainExpiry h => exact plain (stock_due s (stock_expireDrain s s.now h)) e
  case recoveryComplete x => exact plain (stock_due s (stock_stepRecovery s s.now x true)) e
  case handoverAbandon x => exact plain (stock_due s (stock_abandonHandover s s.now x)) e
  case testComplete x d => exact plain (stock_due s (stock_countTestExchange s s.now x d.1)) e
  case handoverStart x =>
    refine plain (f := reachThreshold x) ?_ e
    unfold reachThreshold
    split
    · rfl
    · exact stock_evaluate s x _ _
  case holdinChange level =>
    cases e
    split
    · exact law.of_stock (stock_changeHold s.now (f := setHoldin level) rfl)
    · exact law.of_cle rfl
  case frameReceived kind tag body check =>
    exact whileRunning_pool (f := receiveFrame ⟨kind, tag, body⟩ check) law (pool_completeFrame (pool_setRx law []) _ _) e
  case frameGap =>
    refine whileRunning_pool (f := frameGapPassed) law ?_ e
    unfold frameGapPassed
    split
    · exact law
    · exact pool_frameError (pool_setRx law [])
  case unknownCommand tag kind body => exact whileRunning_pool law (pool_accept law _) e
  case messageTransmitted => exact whileRunning_pool law (pool_endTransmission law) e
  case controlPortByteReceived b stop => exact whileRunning_pool law (pool_receiveByte law b stop) e
  all_goals exact whileRunning_pool law (pool_hostCommand law _ _) e

end Sys2Proof.Machine

open Sys2Proof Sys2Proof.Machine

/-- Settles O55: the operations on links and heads leave the `stock`, which is all the law reads; entries move between
the pool and one list when a burst consumes, an APPEND or SPLICE draws, a FLUSH or close returns (`PoolLaw.of_moved`). -/
theorem stepKeepsPoolLaw : Obligations.StepKeepsPoolLaw := by
  intro s t law e
  unfold step at e
  split at e
  · cases e
    exact law
  · rename_i c rest _
    exact exec_pool c (s := { s with pending := rest }) (law.of_cle rfl) e
end

section
/-! SUPPORT. The release of a TARGET without completion (R112, R115): what it leaves of the link's record, of its serving
head and of the other links. -/

namespace Sys2Proof.Machine

/-- `v` is handover record `w` but for the filtered qualities. -/
def BesideQualities (w v : Handover) : Prop :=
  v = { w with leftQ := v.leftQ, centreQ := v.centreQ, rightQ := v.rightQ }

/-- R50: an invalidation acts on the filtered qualities alone. -/
theorem besideQualities_invalidate (h : HeadNo) (w : Handover) : BesideQualities w (w.invalidate h) := by
  unfold Handover.invalidate
  split
  · rfl
  · split
    · rfl
    · split
      · rfl
      · split <;> rfl

section
variable (t : Time) {x : LinkNo} {s : State}

/-- A drain completion leaves the record of every link but for its qualities (R34, R50). -/
theorem record_testDrain (h : HeadNo) {w : Handover} (record : s.record x = some w) :
    ∃ v, (testDrain t h s).record x = some v ∧ BesideQualities w v := by
  unfold testDrain
  split
  · refine ⟨w.invalidate h, ?_, besideQualities_invalidate h w⟩
    have kept : s.cov.records.get x = some w := record
    rw [Vector.get_eq_getElem] at kept
    unfold completeDrain
    dsimp only
    rw [raiseHead_port]
    show (s.cov.records.map (Option.map (Handover.invalidate h))).get x = _
    simp [Vector.get_eq_getElem, kept]
  · exact ⟨w, record, rfl⟩

theorem record_releaseTarget {w : Handover} (record : s.record x = some w) :
    ∃ v, (releaseTarget t x s).record x = some v ∧ BesideQualities w v := by
  rw [releaseTarget_eq]
  split
  · exact ⟨w, record, rfl⟩
  · refine record_testDrain t _ ?_
    rw [quietCells_frame]
    exact record

theorem resv_releaseTarget (y : LinkNo) :
    (releaseTarget t x s).resv y = if x = y then { s.resv x with target := none } else s.resv y := by
  rw [releaseTarget_eq]
  split
  · rename_i none
    split
    · subst y
      rw [← none]
    · rfl
  · exact released_resv ..

theorem servingHead_releaseTarget : servingHead (releaseTarget t x s) x = servingHead s x := by
  rw [servingHead, resv_releaseTarget, if_pos rfl]
  rfl

/-- The serving head of the link is still named by its PRIMARY, so no drain completes there (R34). -/
theorem head_releaseTarget {h : HeadNo} (serving : servingHead s x = some h) :
    (releaseTarget t x s).head h = s.head h := by
  refine ((handling_releaseTarget (fun _ => True) t x s).heads h trivial).stays fun bare => ?_
  obtain ⟨p, primary, head⟩ := Option.map_eq_some_iff.mp (servingHead_releaseTarget t (s := s) ▸ serving)
  exact naming_eq_nil.mp bare x .primary p primary head

/-- The link stays served, on a head that drains. -/
def drainsBeneath (s : State) (x : LinkNo) : Bool := match servingHead s x with
  | some h => (s.head h).state == .draining
  | none => false

theorem drainsBeneath_of {h : HeadNo} (serving : servingHead s x = some h) :
    drainsBeneath s x = ((s.head h).state == .draining) := by
  rw [drainsBeneath, serving]

theorem drainsBeneath_releaseTarget : drainsBeneath (releaseTarget t x s) x = drainsBeneath s x := by
  cases serving : servingHead s x with
  | none => rw [drainsBeneath, drainsBeneath, servingHead_releaseTarget, serving]
  | some h =>
    rw [drainsBeneath_of serving, drainsBeneath_of ((servingHead_releaseTarget t).trans serving),
      head_releaseTarget t serving]

/-- A handover record whose TARGET was released without completion: forced where the serving head drains (R112). -/
def Handover.dropped (w : Handover) (draining : Bool) : Handover :=
  { w with candidate := none, trigger := 0, forced := draining,
           state := if draining then .candidate else .settled, abandoned := bump w.abandoned }

theorem dropTarget_eq (x : LinkNo) (s : State) : dropTarget t x s = raiseCrane t x (updateRecord x
    (fun w => w.dropped (drainsBeneath (releaseTarget t x s) x)) (releaseTarget t x s)) := rfl

theorem record_dropTarget {w : Handover} (record : s.record x = some w) :
    ∃ v, (dropTarget t x s).record x = some (v.dropped (drainsBeneath s x)) ∧ BesideQualities w v := by
  obtain ⟨v, released, beside⟩ := record_releaseTarget t record
  refine ⟨v, ?_, beside⟩
  rw [dropTarget_eq, drainsBeneath_releaseTarget, updateRecord_eq released, raiseCrane_port]
  exact get_put_same ..

theorem resv_dropTarget (y : LinkNo) :
    (dropTarget t x s).resv y = if x = y then { s.resv x with target := none } else s.resv y := by
  rw [dropTarget_eq, raiseCrane_port]
  exact resv_releaseTarget t y

theorem link_dropTarget (y : LinkNo) : (dropTarget t x s).link y = s.link y := by
  rw [dropTarget_eq, raiseCrane_port]
  exact congrArg (·.links.get y) (releaseTarget_cle t x s)

end

theorem abandonDue_iff {s : State} {x : LinkNo} :
    abandonDue s x = true ↔ ∃ w, s.record x = some w ∧ w.state = .dual ∧ 7 ≤ w.dual := by
  unfold abandonDue
  cases s.record x <;> simp

end Sys2Proof.Machine

open Sys2Proof Sys2Proof.Machine

/-- Settles O25: the abandonment drops the TARGET from a record at dual count 8; elsewhere it is not due. -/
theorem handoverIsAbandoned : Obligations.HandoverIsAbandoned := by
  refine ⟨fun s x w running record dual count => ?_, fun s x running early => ?_⟩
  · have due : abandonDue s x = true := abandonDue_iff.mpr ⟨w, record, dual, count⟩
    have event : exec (.handoverAbandon x) s = .next (dropTarget s.now x (s.setRecord x (some { w with dual := 8 }))) := by
      rw [show exec (.handoverAbandon x) s = .next (runOutDual x s) from whileRunning_running running, runOutDual,
        if_pos due, abandonHandover, updateRecord_eq record]
    obtain ⟨v, dropped, beside⟩ :=
      record_dropTarget s.now (s := s.setRecord x (some { w with dual := 8 })) (State.record_setRecord_same ..)
    have beneath : ∀ h, servingHead s x = some h →
        drainsBeneath (s.setRecord x (some { w with dual := 8 })) x = ((s.head h).state == .draining) :=
      fun h serving => drainsBeneath_of (s := s.setRecord x _) serving
    refine ⟨_, _, event, craneSeen_raiseCrane .., dropped, ?_, link_dropTarget .., ?_, ?_, ?_, rfl, rfl, ?_,
      fun h serving on => ?_, fun h serving draining _ => ?_, fun y ne => ⟨link_dropTarget .., ?_⟩⟩
    · exact (resv_dropTarget s.now x).trans (if_pos rfl)
    · rw [beside]; rfl
    · rw [beside]; rfl
    · rw [beside]; rfl
    · rw [beside]; rfl
    · rw [beneath h serving, on]
      exact ⟨rfl, rfl⟩
    · rw [beneath h serving, draining]
      exact ⟨rfl, rfl⟩
    · exact (resv_dropTarget s.now y).trans (if_neg ne.symm)
  · have idle : ¬ abandonDue s x = true := by
      rw [abandonDue_iff]
      rintro ⟨w, record, dual, count⟩
      rcases early w record with other | few
      · exact other dual
      · omega
    rw [show exec (.handoverAbandon x) s = .next (runOutDual x s) from whileRunning_running running, runOutDual,
      if_neg idle]
end

section
/-! CRANE MODE, CRANE INTERLOCK, CRANE TEST (R74, R92, R98) and CRANE MOVE (R113). -/

namespace Sys2Proof.Machine

/-- A command that is refused, by the state as it stands or with its reply queued, changes nothing else. -/
theorem answers_refused {s : State} (ready : Ready s) {tag : Byte} {c : HostCmd} (w : c.wf = true)
    (a : ∀ l es, c ≠ .craneAppend l es) (q : c ≠ .quietReset) {r : Reply} (now : carryOut c s = (s, r))
    (queued : ∀ m, carryOut c (queueReply m s) = (queueReply m s, r)) :
    Answers (hostInstr tag c) c.kind tag r id s :=
  answers_of ready w a q (by rw [now]) (by rw [queued, id])

/-! ## CRANE MODE -/

theorem trusted_iff {h : Health} : trusted h = true ↔ h = .good ∨ h = .warned := by simp [trusted]

theorem modeAfter_none {l : Link} {service : Bool} (k : l.mode = .closed ∨ l.mode = .test ∨
    l.mode = .standby ∧ service = true ∧ trusted l.health = false) : modeAfter l service = none := by
  rcases k with mode | mode | ⟨mode, rfl, health⟩
  · simp [modeAfter, mode]
  · simp [modeAfter, mode]
  · simp [modeAfter, mode, health]

theorem modeAfter_standby {l : Link} (k : l.mode = .standby ∨ l.mode = .service) :
    modeAfter l false = some .standby := by
  rcases k with mode | mode
  · simp [modeAfter, mode]
  · simp [modeAfter, mode]

theorem modeAfter_service {l : Link} (k : l.mode = .service ∨ l.mode = .standby ∧ trusted l.health = true) :
    modeAfter l true = some .service := by
  rcases k with mode | ⟨mode, health⟩
  · simp [modeAfter, mode]
  · simp [modeAfter, mode, health]

section
variable {link mode : Byte} {x : LinkNo} (hx : linkNo link = some x) {s : State}
include hx

theorem doCraneMode_refused (k : modeAfter (s.link x) (mode == 2#8) = none) :
    doCraneMode link mode s = (s, .state .noneGiven) := by
  rw [doCraneMode, hx]
  dsimp only
  rw [k]

theorem doCraneMode_taken {m : Mode} (k : modeAfter (s.link x) (mode == 2#8) = some m) :
    doCraneMode link mode s = (s.setLink x { s.link x with mode := m }, .ok (.craneMode m (s.link x).health)) := by
  rw [doCraneMode, hx]
  dsimp only
  rw [k]
  rfl

/-! ## CRANE INTERLOCK and CRANE TEST -/

theorem doCraneInterlock_closed (word : Word16) (k : (s.link x).mode = .closed) :
    doCraneInterlock link word s = (s, .state .noneGiven) := by
  rw [doCraneInterlock, hx]
  exact if_pos k

theorem doCraneInterlock_open (word : Word16) (k : (s.link x).mode ≠ .closed) :
    doCraneInterlock link word s =
      (s.setLink x { s.link x with staged := word }, .ok (.craneInterlock word (s.link x).snapshot)) := by
  rw [doCraneInterlock, hx]
  exact if_neg k

/-- R98: the states in which a test may start. -/
def testable (s : State) (x : LinkNo) : Prop :=
  (s.link x).mode = .standby ∧ trusted (s.link x).health = true ∧ holdInForce s = false

theorem doCraneTest_refused (n : Word16) (k : ¬ testable s x) : doCraneTest link n s = (s, .state .noneGiven) := by
  rw [doCraneTest, hx]
  exact if_neg k

theorem doCraneTest_started (n : Word16) (k : testable s x) : doCraneTest link n s =
    (s.setLink x { s.link x with mode := .test, test := some ⟨clamp 1 4095 n.toNat, 0, 0, 0x7FFF#15⟩ },
      .ok (.craneTest (clamp 1 4095 n.toNat))) := by
  rw [doCraneTest, hx]
  exact if_pos k

end

/-! ## CRANE MOVE -/

theorem doCraneMove_range {link head : Byte} (out : 24 ≤ link.toNat ∨ 12 ≤ head.toNat) (s : State) :
    doCraneMove link head s = (s, .range) := by
  rcases out with out | out
  · rw [doCraneMove, linkNo_none out]
  · rw [doCraneMove, headNo_none out]
    cases linkNo link <;> rfl

section
variable {link head : Byte} {x : LinkNo} {h : HeadNo} (hx : linkNo link = some x) (hh : headNo head = some h) {s : State}
include hx hh

theorem doCraneMove_closed (k : (s.link x).mode = .closed) : doCraneMove link head s = (s, .state .linkClosed) := by
  simp only [doCraneMove, hx, hh, if_pos k]

variable (opened : ¬ (s.link x).mode = .closed)
include opened

theorem doCraneMove_unplaced (k : unplaced s x = true) : doCraneMove link head s = (s, .state .unplaced) := by
  simp only [doCraneMove, hx, hh, if_neg opened, if_pos k]

variable (placed : ¬ unplaced s x = true)
include placed

theorem doCraneMove_handover (k : inDual s x = true) : doCraneMove link head s = (s, .state .handover) := by
  simp only [doCraneMove, hx, hh, if_neg opened, if_neg placed, if_pos k]

variable (single : ¬ inDual s x = true)
include single

theorem doCraneMove_sameHead (k : servingHead s x = some h) : doCraneMove link head s = (s, .state .sameHead) := by
  simp only [doCraneMove, hx, hh, if_neg opened, if_neg placed, if_neg single, if_pos k]

variable (elsewhere : ¬ servingHead s x = some h)
include elsewhere

theorem doCraneMove_headState (k : (s.head h).state ≠ .on) : doCraneMove link head s = (s, .state .headState) := by
  simp only [doCraneMove, hx, hh, if_neg opened, if_neg placed, if_neg single, if_neg elsewhere, if_pos k]

variable (on : ¬ (s.head h).state ≠ .on)
include on

theorem doCraneMove_noSlot (k : targetSearch s x h = none) : doCraneMove link head s = (countBlocked x s, .noSlot) := by
  simp only [doCraneMove, hx, hh, if_neg opened, if_neg placed, if_neg single, if_neg elsewhere, if_neg on, k]

theorem doCraneMove_found {p : Place} (k : targetSearch s x h = some p) :
    doCraneMove link head s = (enterDual x p true s, .ok (.craneMove p s.now)) := by
  simp only [doCraneMove, hx, hh, if_neg opened, if_neg placed, if_neg single, if_neg elsewhere, if_neg on, k]

end

/-- R109, R113: a link that enters DUAL, in its own reservations and record alone. -/
theorem enterDual_spec {s : State} {x : LinkNo} {w : Handover} (record : s.record x = some w) (p : Place)
    (forced : Bool) : (enterDual x p forced s).resv x = { s.resv x with target := some p } ∧
      (enterDual x p forced s).record x = some { w with state := .dual, dual := 0, forced := forced } ∧
      Evaluating x s (enterDual x p forced s) := by
  have placed : Evaluating x s (s.setResv x { s.resv x with target := some p }) :=
    ⟨rfl, rfl, fun _ ne => State.resv_setResv_other s _ ne.symm, fun _ _ => rfl⟩
  refine ⟨get_put_same .., ?_, (placed.trans (evaluating_updateRecord x _ _)).trans
    ⟨rfl, rfl, fun _ _ => rfl, fun _ _ => rfl⟩⟩
  have kept : (s.setResv x { s.resv x with target := some p }).record x = some w := record
  unfold enterDual
  dsimp only
  rw [updateRecord_eq kept]
  exact get_put_same ..

theorem inDual_iff {s : State} {x : LinkNo} {w : Handover} (record : s.record x = some w) :
    inDual s x = true ↔ w.state = .dual := by
  rw [inDual, record]
  exact beq_iff_eq

/-- R74: CRANE MODE is answered by the mode that the link takes on the request. -/
theorem craneMode_answers (tag link mode : Byte) (s : State) (ready : Ready s) {x : LinkNo}
    (ex : link.toNat = x.1) :
    (modeAfter (s.link x) (mode == 2#8) = none →
      Answers (.craneMode tag link mode) 0x32#8 tag (.state .noneGiven) id s) ∧
    ∀ m, modeAfter (s.link x) (mode == 2#8) = some m →
      Answers (.craneMode tag link mode) 0x32#8 tag (.ok (.craneMode m (s.link x).health))
        (fun u => u.setLink x { s.link x with mode := m }) s := by
  have hx := linkNo_eq ex
  refine ⟨fun k => ?_, fun m k => ?_⟩
  · exact answers_refused ready (c := .craneMode link mode) rfl nofun nofun (doCraneMode_refused hx k)
      fun n => doCraneMode_refused (s := queueReply n s) hx k
  · refine answers_of ready (c := .craneMode link mode) rfl nofun nofun ?_ ?_
    · rw [carryOut, doCraneMode_taken hx k]
    · rw [carryOut, doCraneMode_taken (s := queueReply _ s) hx k]
      rfl

end Sys2Proof.Machine

open Sys2Proof Sys2Proof.Machine

/-- Settles O44: for each command its refusals, and the link record it writes. -/
theorem craneModeInterlockAndTestAreAnswered : Obligations.CraneModeInterlockAndTestAreAnswered := by
  refine ⟨fun tag link mode s ready => ⟨fun out => ?_, fun x ex => ?_⟩,
    fun tag link word s ready => ⟨fun out => ?_, fun x ex => ?_⟩,
    fun tag link exchanges s ready => ⟨fun out => ?_, fun x ex => ?_⟩⟩
  · have range : ∀ u, doCraneMode link mode u = (u, .range) := fun u => by rw [doCraneMode, linkNo_none out]
    exact answers_refused ready (c := .craneMode link mode) rfl nofun nofun (range s) fun _ => range _
  · obtain ⟨refused, taken⟩ := craneMode_answers tag link mode s ready ex
    refine ⟨fun k => refused (modeAfter_none (k.imp_right (Or.imp_right ?_))), fun live other => taken _ ?_,
      fun live service => taken _ ?_⟩
    · rintro ⟨standby, service, notGood, notWarned⟩
      refine ⟨standby, beq_iff_eq.mpr service, ?_⟩
      rw [← Bool.not_eq_true, trusted_iff]
      exact fun k => k.elim notGood notWarned
    · rw [beq_false_of_ne other]
      exact modeAfter_standby live
    · rw [beq_iff_eq.mpr service]
      exact modeAfter_service (live.imp_right (And.imp_right trusted_iff.mpr))
  · have range : ∀ u, doCraneInterlock link word u = (u, .range) := fun u => by rw [doCraneInterlock, linkNo_none out]
    exact answers_refused ready (c := .craneInterlock link word) rfl nofun nofun (range s) fun _ => range _
  · have hx := linkNo_eq ex
    refine ⟨fun closed => ?_, fun opened => ?_⟩
    · exact answers_refused ready (c := .craneInterlock link word) rfl nofun nofun
        (doCraneInterlock_closed hx word closed) fun n => doCraneInterlock_closed (s := queueReply n s) hx word closed
    · refine answers_of ready (c := .craneInterlock link word) rfl nofun nofun ?_ ?_
      · rw [carryOut, doCraneInterlock_open hx word opened]
      · rw [carryOut, doCraneInterlock_open (s := queueReply _ s) hx word opened]
        rfl
  · have range : ∀ u, doCraneTest link exchanges u = (u, .range) := fun u => by rw [doCraneTest, linkNo_none out]
    exact answers_refused ready (c := .craneTest link exchanges) rfl nofun nofun (range s) fun _ => range _
  · have hx := linkNo_eq ex
    refine ⟨fun refusal => ?_, fun standby health free => ?_⟩
    · have unfit : ¬ testable s x := by
        rintro ⟨standby, health, free⟩
        rcases refusal with other | ⟨notGood, notWarned⟩ | hold
        · exact other standby
        · exact (trusted_iff.mp health).elim notGood notWarned
        · rw [free] at hold
          cases hold
      exact answers_refused ready (c := .craneTest link exchanges) rfl nofun nofun
        (doCraneTest_refused hx exchanges unfit) fun n => doCraneTest_refused (s := queueReply n s) hx exchanges unfit
    · have fit : testable s x := ⟨standby, trusted_iff.mpr health, free⟩
      refine answers_of ready (c := .craneTest link exchanges) rfl nofun nofun ?_ ?_
      · rw [carryOut, doCraneTest_started hx exchanges fit]
        rfl
      · rw [carryOut, doCraneTest_started (s := queueReply _ s) hx exchanges fit]
        rfl

/-- Settles O48: the refusals in the order of R113, the target search, and the DUAL it opens. -/
theorem craneMoveIsAnswered : Obligations.CraneMoveIsAnswered := by
  intro tag link head s ready i
  have refused : ∀ {r}, doCraneMove link head s = (s, r) →
      (∀ m, doCraneMove link head (queueReply m s) = (queueReply m s, r)) → Answers i 0x3A#8 tag r id s :=
    answers_refused ready (c := .craneMove link head) rfl nofun nofun
  refine ⟨fun out => refused (doCraneMove_range out s) fun _ => doCraneMove_range out _, fun x h ex eh => ?_⟩
  have hx := linkNo_eq ex
  have hh := headNo_eq eh
  refine ⟨fun closed => refused (doCraneMove_closed hx hh closed)
      fun n => doCraneMove_closed (s := queueReply n s) hx hh closed,
    fun opened k => refused (doCraneMove_unplaced hx hh opened k)
      fun n => doCraneMove_unplaced (s := queueReply n s) hx hh opened k,
    fun w opened placed record => ?_⟩
  have placed := Bool.not_eq_true _ |>.mpr placed
  refine ⟨fun dual => ?_, fun single same => ?_, fun single elsewhere => ⟨fun off => ?_, fun on none => ?_,
    fun p on found => ?_⟩⟩
  · have dual := (inDual_iff record).mpr dual
    exact refused (doCraneMove_handover hx hh opened placed dual)
      fun n => doCraneMove_handover (s := queueReply n s) hx hh opened placed dual
  all_goals have single := (inDual_iff record).not.mpr single
  · exact refused (doCraneMove_sameHead hx hh opened placed single same)
      fun n => doCraneMove_sameHead (s := queueReply n s) hx hh opened placed single same
  · exact refused (doCraneMove_headState hx hh opened placed single elsewhere off)
      fun n => doCraneMove_headState (s := queueReply n s) hx hh opened placed single elsewhere off
  all_goals have on := not_not.mpr on
  · have search : targetSearch s x h = .none := noTarget_iff.mp none
    refine answers_of ready (c := .craneMove link head) rfl nofun nofun ?_ ?_
    · rw [carryOut, doCraneMove_noSlot hx hh opened placed single elsewhere on search]
    · rw [carryOut, doCraneMove_noSlot (s := queueReply _ s) hx hh opened placed single elsewhere on search]
      exact updateRecord_eq (s := queueReply _ s) record _
  · have search : targetSearch s x h = some p := targetFound_iff.mp found
    have next := exec_answered ready tag (c := .craneMove link head) rfl nofun nofun
    rw [carryOut, carryOut, doCraneMove_found hx hh opened placed single elsewhere on search] at next
    rw [doCraneMove_found (s := queueReply _ s) hx hh opened placed single elsewhere on search] at next
    obtain ⟨resv, dual, only⟩ := enterDual_spec (s := queueReply _ s) record p true
    refine ⟨_, next, ?_, resv, dual, only.links, only.othersKept⟩
    rw [only.port]
    exact List.mem_append_right _ (List.mem_singleton.mpr rfl)
end

section
/-! CRANE APPEND, CRANE SPLICE and CRANE FLUSH (R82 to R84), with what one raise leaves of the Control Port. -/

namespace Sys2Proof.Machine

/-! ## One raise (R165, R166, R168) -/

/-- What a raise reads of the Control Port is the same in `s` and `u`. -/
structure SameNotices (s u : State) : Prop where
  flags : u.cp.flags = s.cp.flags
  enables : u.cp.enables = s.cp.enables
  replies : u.cp.replies = s.cp.replies
  notices : u.cp.notices = s.cp.notices
  drops : u.cp.noticeDrops = s.cp.noticeDrops

theorem SameNotices.refl (s : State) : SameNotices s s := ⟨rfl, rfl, rfl, rfl, rfl⟩

theorem SameNotices.outbound {s u : State} (k : SameNotices s u) : outbound u = outbound s := by
  rw [Machine.outbound, k.replies, k.notices]
  rfl

/-- `s` with flag `f` set. -/
def setFlag (f : Flag) (s : State) : State := { s with cp := { s.cp with flags := addMember s.cp.flags f.bit } }

theorem raise_set {t : Time} {f : Flag} {o : Byte} {s : State} (k : flagSet s f = true) : raise t f o s = s := if_pos k

theorem raise_disabled {t : Time} {f : Flag} {o : Byte} {s : State} (clear : flagSet s f = false)
    (k : s.cp.enables.getLsbD f.bit = false) : raise t f o s = setFlag f s := by
  have clear : s.cp.flags.getLsbD f.bit = false := clear
  simp [raise, clear, k, setFlag]

theorem raise_enabled {t : Time} {f : Flag} {o : Byte} {s : State} (clear : flagSet s f = false)
    (k : s.cp.enables.getLsbD f.bit = true) :
    raise t f o s = offerNotice (.event f o (addMember s.cp.flags f.bit) t) (setFlag f s) := by
  have clear : s.cp.flags.getLsbD f.bit = false := clear
  simp [raise, clear, k, setFlag]

theorem hasRoom_iff {s : State} : hasRoom s = true ↔ (outbound s).length < 64 := decide_eq_true_iff

theorem offerNotice_full (m : Message) {s : State} (full : 64 ≤ (outbound s).length) :
    offerNotice m s = { s with cp := { s.cp with noticeDrops := bump s.cp.noticeDrops } } :=
  if_neg (by rw [hasRoom_iff]; omega)

/-- The only raise on the way from `s`, made where nothing it reads has changed. -/
theorem raised_raise {s u : State} (k : SameNotices s u) (f : Flag) (o : Byte) :
    Raised f o s (raise s.fs.now f o u) := by
  have set : ∀ g, flagSet u g = flagSet s g := fun g => by rw [flagSet, flagSet, k.flags]
  refine ⟨fun g => ?_, fun quiet => ?_, fun clear enabled => ?_⟩
  · rw [flagSet_raise, set]
    simp only [eq_comm]
  · by_cases shown : flagSet u f = true
    · rw [raise_set shown]
      exact ⟨k.notices, k.drops⟩
    · have off := quiet.resolve_left (set f ▸ shown)
      rw [raise_disabled (Bool.not_eq_true _ |>.mp shown) (k.enables ▸ off)]
      exact ⟨k.notices, k.drops⟩
  · have flags : (raise s.fs.now f o u).cp.flags = addMember u.cp.flags f.bit := raise_flags ..
    rw [flags, raise_enabled ((set f).trans clear) (k.enables ▸ enabled)]
    have waiting : outbound (setFlag f u) = outbound s := k.outbound
    refine ⟨fun few => ?_, fun full => ?_⟩
    · rw [offerNotice_roomy _ (waiting ▸ few)]
      exact ⟨congrArg (· ++ _) k.notices, k.drops⟩
    · rw [offerNotice_full _ (waiting ▸ full)]
      exact ⟨k.notices, congrArg bump k.drops⟩

/-- LINK raised, on a state that differs from `s` in nothing a raise reads (R166). -/
theorem linkRaised_raisePlain {s u : State} (k : SameNotices s u) :
    LinkRaised s (raisePlain s.fs.now .link u) ∧ flagSet (raisePlain s.fs.now .link u) .link = true :=
  ⟨raised_raise k .link noObject, by rw [raisePlain, flagSet_raise]; simp⟩

/-! ## Lists and pool (R81) -/

theorem entriesFit_iff {s : State} {x : LinkNo} {n : Nat} :
    entriesFit s x n = true ↔ (s.link x).list.length + n ≤ 64 ∧ n ≤ s.cle.poolFree := by
  rw [entriesFit, Bool.and_eq_true, decide_eq_true_iff, decide_eq_true_iff]
  rfl

/-- The list of link `x` becomes `list`, with `free` entries left in the pool. -/
def setList (x : LinkNo) (list : List CraneEntry) (free : Nat) (s : State) : State :=
  { s with cle := { s.cle with links := put s.cle.links x { s.link x with list := list }, poolFree := free } }

/-! ## CRANE APPEND -/

/-- A posted command that may be taken needs no place for a reply (R162, R164). -/
theorem exec_craneAppend {tag link : Byte} {es : List EntryVals} {s : State} (running : s.resetn = true)
    (waiting : s.cp.inbound = []) (one : 1 ≤ es.length) (few : es.length ≤ 16) :
    exec (.craneAppend tag link es) s = .next (doCraneAppend link es s) := by
  have wf : (HostCmd.craneAppend link es).wf = true := by simp [HostCmd.wf, one, few]
  have posted : mayTake ((HostCmd.craneAppend link es).frame tag) s = true := rfl
  rw [show exec (.craneAppend tag link es) s = exec (hostInstr tag (.craneAppend link es)) s from rfl,
    exec_hostInstr, if_pos running, hostCommand, if_pos ⟨waiting, wf, posted⟩]
  rfl

theorem doCraneAppend_range {link : Byte} (out : 24 ≤ link.toNat) (es : List EntryVals) (s : State) :
    doCraneAppend link es s = raisePlain s.fs.now .link s := by
  rw [doCraneAppend, linkNo_none out]
  rfl

section
variable {link : Byte} {x : LinkNo} (hx : linkNo link = some x) (es : List EntryVals) {s : State}
include hx

theorem doCraneAppend_taken (opened : (s.link x).mode ≠ .closed) (fit : entriesFit s x es.length = true) :
    doCraneAppend link es s =
      setList x ((s.link x).list ++ es.map readEntry) (s.cle.poolFree - es.length) s := by
  rw [doCraneAppend, hx]
  exact if_pos (by simp [opened, fit])

theorem doCraneAppend_refused (k : (s.link x).mode = .closed ∨ entriesFit s x es.length = false) :
    doCraneAppend link es s = refuseAppend x s := by
  rw [doCraneAppend, hx]
  refine if_neg ?_
  rcases k with closed | full
  · simp [closed]
  · simp [full]

/-! ## CRANE SPLICE -/

theorem doCraneSplice_closed (k : (s.link x).mode = .closed) : doCraneSplice link es s = (s, .state .noneGiven) := by
  rw [doCraneSplice, hx]
  exact if_pos k

theorem doCraneSplice_full (opened : (s.link x).mode ≠ .closed) (k : entriesFit s x es.length = false) :
    doCraneSplice link es s = (s, .full) := by
  rw [doCraneSplice, hx]
  exact (if_neg opened).trans (if_neg (by simp [k]))

theorem doCraneSplice_taken (opened : (s.link x).mode ≠ .closed) (fit : entriesFit s x es.length = true) :
    doCraneSplice link es s =
      (setList x (es.map readEntry ++ (s.link x).list) (s.cle.poolFree - es.length) s,
        .ok (.craneSplice (es.length + (s.link x).list.length) (s.cle.poolFree - es.length))) := by
  have own : ∀ list, ((setList x list (s.cle.poolFree - es.length) s).link x).list = list := fun list => by
    rw [State.link, setList, get_put_same]
  have spliced : doCraneSplice link es s =
      (setList x (es.map readEntry ++ (s.link x).list) (s.cle.poolFree - es.length) s,
        .ok (.craneSplice ((setList x (es.map readEntry ++ (s.link x).list)
          (s.cle.poolFree - es.length) s).link x).list.length (s.cle.poolFree - es.length))) := by
    rw [doCraneSplice, hx]
    exact (if_neg opened).trans (if_pos fit)
  rw [spliced, own, List.length_append, List.length_map]

/-! ## CRANE FLUSH -/

omit es in
theorem doCraneFlush_closed (k : (s.link x).mode = .closed) : doCraneFlush link s = (s, .state .noneGiven) := by
  rw [doCraneFlush, hx]
  exact if_pos k

omit es in
theorem doCraneFlush_open (k : (s.link x).mode ≠ .closed) : doCraneFlush link s =
    (setList x [] (s.cle.poolFree + (s.link x).list.length) s,
      .ok (.craneFlush (s.link x).list.length (s.cle.poolFree + (s.link x).list.length))) := by
  rw [doCraneFlush, hx]
  exact if_neg k

end

/-- R82: a refused append counts at its link and raises LINK, and changes nothing else. -/
theorem refuseAppend_spec (x : LinkNo) (s : State) :
    (refuseAppend x s).cp.replies = s.cp.replies ∧ flagSet (refuseAppend x s) .link = true ∧
      LinkRaised s (refuseAppend x s) ∧
      refuseAppend x s = { s with
        cle := { s.cle with links := put s.cle.links x { s.link x with
          postedErrors := min ((s.link x).postedErrors + 1) 65535 } }
        cp := (refuseAppend x s).cp } := by
  obtain ⟨raised, set⟩ := linkRaised_raisePlain (s := s)
    (u := updateLink x (fun l => { l with postedErrors := bump l.postedErrors }) s) ⟨rfl, rfl, rfl, rfl, rfl⟩
  exact ⟨raise_replies .., set, raised, raise_port ..⟩

end Sys2Proof.Machine

open Sys2Proof Sys2Proof.Machine

/-- Settles O45: the posted command is carried out at once, by the cases of `doCraneAppend`. -/
theorem craneAppendIsPosted : Obligations.CraneAppendIsPosted := by
  intro tag link es s running waiting one few
  rw [exec_craneAppend running waiting one few]
  refine ⟨fun out => ?_, fun x ex => ⟨fun opened list pool => ?_, fun refusal => ?_⟩⟩
  · rw [doCraneAppend_range out]
    obtain ⟨raised, set⟩ := linkRaised_raisePlain (.refl s)
    exact ⟨_, rfl, raise_port .., raise_replies .., set, raised⟩
  · rw [doCraneAppend_taken (linkNo_eq ex) es opened (entriesFit_iff.mpr ⟨list, pool⟩), setList]
  · have unfit : (s.link x).mode = .closed ∨ entriesFit s x es.length = false := by
      refine refusal.imp_right fun k => ?_
      rw [← Bool.not_eq_true, entriesFit_iff]
      omega
    rw [doCraneAppend_refused (linkNo_eq ex) es unfit]
    exact ⟨_, rfl, refuseAppend_spec x s⟩

/-- Settles O46: for each command its refusals, and the list and pool it leaves. -/
theorem craneSpliceAndFlushAreAnswered : Obligations.CraneSpliceAndFlushAreAnswered := by
  refine ⟨fun tag link es s ready one few => ?_, fun tag link s ready => ⟨fun out => ?_, fun x ex => ?_⟩⟩
  · have wf : (HostCmd.craneSplice link es).wf = true := by simp [HostCmd.wf, one, few]
    refine ⟨fun out => ?_, fun x ex => ?_⟩
    · have range : ∀ u, doCraneSplice link es u = (u, .range) := fun u => by rw [doCraneSplice, linkNo_none out]
      exact answers_refused ready wf nofun nofun (range s) fun _ => range _
    · have hx := linkNo_eq ex
      refine ⟨fun closed => ?_, fun opened full => ?_, fun opened list pool => ?_⟩
      · exact answers_refused ready wf nofun nofun (doCraneSplice_closed hx es closed)
          fun n => doCraneSplice_closed (s := queueReply n s) hx es closed
      · have unfit : entriesFit s x es.length = false := by
          rw [← Bool.not_eq_true, entriesFit_iff]
          omega
        exact answers_refused ready wf nofun nofun (doCraneSplice_full hx es opened unfit)
          fun n => doCraneSplice_full (s := queueReply n s) hx es opened unfit
      · have fit := entriesFit_iff.mpr ⟨list, pool⟩
        refine answers_of ready wf nofun nofun ?_ ?_
        · rw [carryOut, doCraneSplice_taken hx es opened fit]
        · rw [carryOut, doCraneSplice_taken (s := queueReply _ s) hx es opened fit]
          rfl
  · have range : ∀ u, doCraneFlush link u = (u, .range) := fun u => by rw [doCraneFlush, linkNo_none out]
    exact answers_refused ready (c := .craneFlush link) rfl nofun nofun (range s) fun _ => range _
  · have hx := linkNo_eq ex
    refine ⟨fun closed => ?_, fun opened => ?_⟩
    · exact answers_refused ready (c := .craneFlush link) rfl nofun nofun (doCraneFlush_closed hx closed)
        fun n => doCraneFlush_closed (s := queueReply n s) hx closed
    · refine answers_of ready (c := .craneFlush link) rfl nofun nofun ?_ ?_
      · rw [carryOut, doCraneFlush_open hx opened]
      · rw [carryOut, doCraneFlush_open (s := queueReply _ s) hx opened]
        rfl
end

section
/-! The transmitter (R165, R96) and the frame that the place it frees lets in (R162). -/

namespace Sys2Proof.Machine

/-! ## The head of the outbound queue -/

/-- A message other than a CRANE ALARM counts for no link (R96). -/
theorem lowerPending_plain {m : Message} (k : ∀ x term c p g t, m ≠ .craneAlarm x term c p g t) (s : State) :
    lowerPending m s = s := by
  cases m with
  | craneAlarm x term c p g t => exact absurd rfl (k x term c p g t)
  | reply | ready | event => rfl

theorem beginNext_reply {s : State} {k tag : Byte} {r : Reply} {rest : List Message}
    (head : s.cp.replies = .reply k tag r :: rest) :
    beginNext s = { s with cp := { s.cp with sending := some (.reply k tag r), replies := rest } } := by
  rw [beginNext, head]
  rfl

theorem beginNext_notice {s : State} {m : Message} {rest : List Message} (none : s.cp.replies = [])
    (head : s.cp.notices = m :: rest) :
    beginNext s = lowerPending m { s with cp := { s.cp with sending := some m, notices := rest } } := by
  rw [beginNext, none, head]

theorem beginNext_empty {s : State} (noReply : s.cp.replies = []) (noNotice : s.cp.notices = []) :
    beginNext s = { s with cp := { s.cp with sending := none } } := by
  rw [beginNext, noReply, noNotice]

/-! ## The waiting frame -/

theorem takeAll_none {s : State} (none : s.cp.inbound = []) : takeAll s = s := by
  rw [takeAll, none]
  rfl

/-- R162: the one waiting frame is taken where the outbound queue has room. -/
theorem takeAll_one {s : State} {f : Frame} (one : s.cp.inbound = [f]) (room : (outbound s).length < 64) :
    takeAll s = takeFrame f { s with cp := { s.cp with inbound := [] } } := by
  rw [takeAll, one]
  show takeWaiting 1 s = _
  rw [takeWaiting, one]
  exact if_pos (mayTake_of_room (hasRoom_iff.mpr room) f)

/-- R163: a frame that is no command and not posted is answered UNKNOWN. -/
theorem takeFrame_unknown {f : Frame} (bad : kindLengthOk f.kind f.body.length = false) (kind : f.kind ≠ 0x34#8)
    (s : State) : takeFrame f s = queueReply (.reply f.kind f.tag .unknown) s := by
  have none : decodeCommand f.kind f.body = .none := by simp [decodeCommand, bad]
  have replied : f.posted = false := beq_false_of_ne kind
  rw [takeFrame, none]
  exact if_neg (by simp [replied])

/-! ## The event -/

section
variable {s u : State} (running : s.resetn = true) (next : beginNext s = u)
include running next

/-- With no frame waiting the event ends with the next message (R165). -/
theorem exec_messageTransmitted_alone (none : u.cp.inbound = []) : exec .messageTransmitted s = .next u := by
  rw [show exec .messageTransmitted s = .next (endTransmission s) from whileRunning_running running,
    endTransmission, next, takeAll_none none]

/-- With one frame waiting the place that frees lets it in (R162). -/
theorem exec_messageTransmitted_taking {f : Frame} (one : u.cp.inbound = [f]) (room : (outbound u).length < 64) :
    exec .messageTransmitted s = .next (takeFrame f { u with cp := { u.cp with inbound := [] } }) := by
  rw [show exec .messageTransmitted s = .next (endTransmission s) from whileRunning_running running,
    endTransmission, next, takeAll_one one room]

end

/-- A full outbound queue whose head leaves has room. -/
theorem room_of_reply_left {s : State} (full : (outbound s).length = 64) {m : Message} {rest : List Message}
    (head : s.cp.replies = m :: rest) : (rest ++ s.cp.notices).length < 64 := by
  rw [outbound, head, List.cons_append, List.length_cons] at full
  omega

theorem room_of_notice_left {s : State} (full : (outbound s).length = 64) {m : Message} {rest : List Message}
    (head : s.cp.notices = m :: rest) : (s.cp.replies ++ rest).length < 64 := by
  rw [outbound, head, List.length_append, List.length_cons] at full
  rw [List.length_append]
  omega

end Sys2Proof.Machine

open Sys2Proof Sys2Proof.Machine

/-- Settles O36, by the head of the queue and whether a frame waits. -/
theorem nextMessageIsSent : Obligations.NextMessageIsSent := by
  intro s running
  refine ⟨fun none k tag r rest head => ?_, fun none noReply m rest head plain => ?_,
    fun none noReply x term c p g t rest head => ?_, fun none noReply noNotice => ?_,
    fun f k tag r rest one full head => ?_, fun f x term c p g t rest one full noReply head => ?_,
    fun f m rest one full noReply head plain => ?_, fun f k tag r rest one full head bad kind => ?_⟩
  · exact exec_messageTransmitted_alone running (beginNext_reply head) none
  · exact exec_messageTransmitted_alone running
      ((beginNext_notice noReply head).trans (lowerPending_plain plain _)) none
  · exact exec_messageTransmitted_alone running (beginNext_notice noReply head) none
  · exact exec_messageTransmitted_alone running (beginNext_empty noReply noNotice) none
  · exact exec_messageTransmitted_taking running (beginNext_reply head) one
      (room_of_reply_left full head)
  · exact exec_messageTransmitted_taking running (beginNext_notice noReply head) one
      (room_of_notice_left full head)
  · exact exec_messageTransmitted_taking running
      ((beginNext_notice noReply head).trans (lowerPending_plain plain _)) one
      (room_of_notice_left full head)
  · rw [exec_messageTransmitted_taking running (beginNext_reply head) one
      (room_of_reply_left full head), takeFrame_unknown bad kind]
    rfl
end

section
/-! SUPPORT. What raises leave of flags, detail sets and notices, and what the handling of one link's exchange leaves of
the other links (R94 to R119). -/

namespace Sys2Proof.Machine

/-! ## Raises at the Control Port (R165, R166, R168) -/

/-- On the way from `s` to `u` flags have been raised, at most: no flag or member of a detail set is lost, every notice
still waits, and a full outbound queue takes no other; with every enable off no notice is made. -/
structure Raising (s u : State) : Prop where
  flags : ∀ f, flagSet s f = true → flagSet u f = true
  craneSet : ∀ x : LinkNo, s.cp.craneSet.getLsbD x.1 = true → u.cp.craneSet.getLsbD x.1 = true
  listLowSet : ∀ x : LinkNo, s.cp.listLowSet.getLsbD x.1 = true → u.cp.listLowSet.getLsbD x.1 = true
  enables : u.cp.enables = s.cp.enables
  replies : u.cp.replies = s.cp.replies
  notices : ∀ m ∈ s.cp.notices, m ∈ u.cp.notices
  full : 64 ≤ (outbound s).length → u.cp.notices = s.cp.notices
  drops : min s.cp.noticeDrops 65535 ≤ u.cp.noticeDrops
  silent : s.cp.enables = 0#10 → u.cp.notices = s.cp.notices ∧ u.cp.noticeDrops = s.cp.noticeDrops

namespace Raising

variable {s u v : State}

theorem of_cp (k : u.cp = s.cp) : Raising s u where
  flags := by unfold flagSet; rw [k]; exact fun _ => id
  craneSet := by rw [k]; exact fun _ => id
  listLowSet := by rw [k]; exact fun _ => id
  enables := by rw [k]
  replies := by rw [k]
  notices := by rw [k]; exact fun _ => id
  full := by rw [k]; exact fun _ => rfl
  drops := by rw [k]; omega
  silent := by rw [k]; exact fun _ => ⟨rfl, rfl⟩

theorem refl (s : State) : Raising s s := of_cp rfl

theorem trans (a : Raising s u) (b : Raising u v) : Raising s v where
  flags f k := b.flags f (a.flags f k)
  craneSet x k := b.craneSet x (a.craneSet x k)
  listLowSet x k := b.listLowSet x (a.listLowSet x k)
  enables := b.enables.trans a.enables
  replies := b.replies.trans a.replies
  notices m k := b.notices m (a.notices m k)
  full k := by
    have same : outbound u = outbound s := by rw [outbound, a.replies, a.full k]; rfl
    rw [b.full (same ▸ k), a.full k]
  drops := by have := a.drops; have := b.drops; omega
  silent k := by
    obtain ⟨notices, drops⟩ := a.silent k
    obtain ⟨notices', drops'⟩ := b.silent (a.enables.trans k)
    exact ⟨notices'.trans notices, drops'.trans drops⟩

theorem craneSeen (k : Raising s u) {x : LinkNo} (seen : CraneSeen s x) : CraneSeen u x :=
  ⟨k.flags _ seen.1, k.craneSet x seen.2⟩

/-- A queue that was full is full. -/
theorem stillFull (k : Raising s u) (full : 64 ≤ (outbound s).length) : 64 ≤ (outbound u).length := by
  rw [outbound, k.replies, k.full full]
  exact full

end Raising

/-- What a raise does beyond its flag. -/
theorem raise_notices (t : Time) (f : Flag) (o : Byte) (s : State) :
    (raise t f o s).cp.notices = s.cp.notices ∧ (raise t f o s).cp.noticeDrops = s.cp.noticeDrops ∨
      s.cp.enables.getLsbD f.bit = true ∧
        ((outbound s).length < 64 ∧ (∃ m, (raise t f o s).cp.notices = s.cp.notices ++ [m]) ∧
            (raise t f o s).cp.noticeDrops = s.cp.noticeDrops ∨
          64 ≤ (outbound s).length ∧ (raise t f o s).cp.notices = s.cp.notices ∧
            (raise t f o s).cp.noticeDrops = bump s.cp.noticeDrops) := by
  by_cases set : flagSet s f = true
  · rw [raise_set set]
    exact .inl ⟨rfl, rfl⟩
  · have clear := Bool.not_eq_true _ |>.mp set
    by_cases enabled : s.cp.enables.getLsbD f.bit = true
    · refine .inr ⟨enabled, ?_⟩
      rw [raise_enabled clear enabled]
      by_cases room : (outbound s).length < 64
      · rw [offerNotice_roomy _ (s := setFlag f s) room]
        exact .inl ⟨room, ⟨_, rfl⟩, rfl⟩
      · have full : 64 ≤ (outbound s).length := by omega
        rw [offerNotice_full _ (s := setFlag f s) full]
        exact .inr ⟨full, rfl, rfl⟩
    · rw [raise_disabled clear (Bool.not_eq_true _ |>.mp enabled)]
      exact .inl ⟨rfl, rfl⟩

theorem raising_raise (t : Time) (f : Flag) (o : Byte) (s : State) : Raising s (raise t f o s) where
  flags g k := by rw [flagSet_raise, k]; rfl
  craneSet x k := by rw [raise_cp]; exact k
  listLowSet x k := by rw [raise_cp]; exact k
  enables := by rw [raise_cp]
  replies := raise_replies t f o s
  notices m k := by
    rcases raise_notices t f o s with ⟨e, -⟩ | ⟨-, ⟨-, ⟨n, e⟩, -⟩ | ⟨-, e, -⟩⟩
    · rw [e]; exact k
    · rw [e]; exact List.mem_append_left _ k
    · rw [e]; exact k
  full k := by
    rcases raise_notices t f o s with ⟨e, -⟩ | ⟨-, ⟨room, -, -⟩ | ⟨-, e, -⟩⟩
    · exact e
    · omega
    · exact e
  drops := by
    rcases raise_notices t f o s with ⟨-, e⟩ | ⟨-, ⟨-, -, e⟩ | ⟨-, -, e⟩⟩
    · omega
    · omega
    · rw [e, bump]; omega
  silent k := by
    rcases raise_notices t f o s with quiet | ⟨enabled, -⟩
    · exact quiet
    · simp [k] at enabled

/-- A raise of CRANE, HEAD or LIST-LOW first adds to its detail set. -/
theorem raising_raiseCrane (t : Time) (x : LinkNo) (s : State) : Raising s (raiseCrane t x s) := by
  have added : Raising s { s with cp := { s.cp with craneSet := addMember s.cp.craneSet x.1 } } :=
    ⟨fun _ => id, fun y k => by simp only [getLsbD_addMember, k]; rfl, fun _ => id, rfl, rfl, fun _ => id, fun _ => rfl,
      Nat.min_le_left _ _, fun _ => ⟨rfl, rfl⟩⟩
  exact added.trans (raising_raise ..)

theorem raising_raiseListLow (t : Time) (x : LinkNo) (s : State) : Raising s (raiseListLow t x s) := by
  have added : Raising s { s with cp := { s.cp with listLowSet := addMember s.cp.listLowSet x.1 } } :=
    ⟨fun _ => id, fun _ => id, fun y k => by simp only [getLsbD_addMember, k]; rfl, rfl, rfl, fun _ => id, fun _ => rfl,
      Nat.min_le_left _ _, fun _ => ⟨rfl, rfl⟩⟩
  exact added.trans (raising_raise ..)

theorem raising_raiseHead (t : Time) (h : HeadNo) (s : State) : Raising s (raiseHead t h s) := by
  have added : Raising s { s with cp := { s.cp with headSet := addMember s.cp.headSet h.1 } } :=
    ⟨fun _ => id, fun _ => id, fun _ => id, rfl, rfl, fun _ => id, fun _ => rfl,
      Nat.min_le_left _ _, fun _ => ⟨rfl, rfl⟩⟩
  exact added.trans (raising_raise ..)

/-! ## The handling of one link (R94 to R119) -/

/-- What a settlement reads of a handover record: its state and the forced flag (R110, R119). -/
def Handover.stage (w : Handover) : HandoverState × Bool := (w.state, w.forced)

/-- On the way from `s` to `u` link `y` has been handled: the other links keep record, exchange state and handover state,
no exchange becomes one of a link just opened, no CRANE cell appears in the map, and the settings stand. -/
structure Elsewhere (y : LinkNo) (s u : State) : Prop where
  link : ∀ x, x ≠ y → u.link x = s.link x
  exch : ∀ x, x ≠ y → u.exch x = s.exch x
  stage : ∀ x, x ≠ y → (u.record x).map Handover.stage = (s.record x).map Handover.stage
  opened : ∀ x, (u.exch x).opened = (s.exch x).opened
  cells : ∀ g sl x r, u.cell g sl = .crane x r → s.cell g sl = .crane x r
  settings : u.cov.settings = s.cov.settings

/-- So has it by operations that raise flags and make no other notice. -/
structure Turn (y : LinkNo) (s u : State) : Prop extends Elsewhere y s u where
  raising : Raising s u

namespace Elsewhere

variable {y : LinkNo} {s u v : State}

theorem refl (y : LinkNo) (s : State) : Elsewhere y s s :=
  ⟨fun _ _ => rfl, fun _ _ => rfl, fun _ _ => rfl, fun _ => rfl, fun _ _ _ _ => id, rfl⟩

theorem trans (a : Elsewhere y s u) (b : Elsewhere y u v) : Elsewhere y s v where
  link x ne := (b.link x ne).trans (a.link x ne)
  exch x ne := (b.exch x ne).trans (a.exch x ne)
  stage x ne := (b.stage x ne).trans (a.stage x ne)
  opened x := (b.opened x).trans (a.opened x)
  cells g sl x r k := a.cells g sl x r (b.cells g sl x r k)
  settings := b.settings.trans a.settings

/-- What acts on the Control Port alone. -/
theorem of_port (k : u = { s with cp := u.cp }) : Elsewhere y s u := by
  rw [k]
  exact ⟨fun _ _ => rfl, fun _ _ => rfl, fun _ _ => rfl, fun _ => rfl, fun _ _ _ _ => id, rfl⟩

theorem forEach {α : Type} {f : α → State → State} (l : List α) (k : ∀ a s, Elsewhere y s (f a s)) (s : State) :
    Elsewhere y s (forEach l f s) :=
  forEach_keeps (P := Elsewhere y s) l (fun a _ u h => h.trans (k a u)) (.refl y s)

end Elsewhere

namespace Turn

variable {y : LinkNo} {s u v : State}

theorem refl (y : LinkNo) (s : State) : Turn y s s := ⟨.refl y s, .refl s⟩

theorem trans (a : Turn y s u) (b : Turn y u v) : Turn y s v :=
  ⟨a.toElsewhere.trans b.toElsewhere, a.raising.trans b.raising⟩

theorem of_port (k : u = { s with cp := u.cp }) (raising : Raising s u) : Turn y s u := ⟨.of_port k, raising⟩

end Turn

section
variable (t : Time) (y : LinkNo) (s : State)

/-! ## Plain updates -/

theorem turn_setLink (l : Link) : Turn y s (s.setLink y l) :=
  ⟨⟨fun _ ne => State.link_setLink_other s l ne.symm, fun _ _ => rfl, fun _ _ => rfl, fun _ => rfl, fun _ _ _ _ => id,
    rfl⟩, .of_cp rfl⟩

theorem turn_updateLink (f : Link → Link) : Turn y s (updateLink y f s) := turn_setLink y s _

theorem turn_setRecord (w : Option Handover) : Turn y s (s.setRecord y w) :=
  ⟨⟨fun _ _ => rfl, fun _ _ => rfl, fun _ ne => congrArg _ (State.record_setRecord_other s w ne.symm), fun _ => rfl,
    fun _ _ _ _ => id, rfl⟩, .of_cp rfl⟩

theorem turn_updateRecord (f : Handover → Handover) : Turn y s (updateRecord y f s) := turn_setRecord y s _

theorem turn_setResv (r : Held) : Turn y s (s.setResv y r) :=
  ⟨⟨fun _ _ => rfl, fun _ _ => rfl, fun _ _ => rfl, fun _ => rfl, fun _ _ _ _ => id, rfl⟩, .of_cp rfl⟩

theorem turn_setExch (e : Exchange) (opened : e.opened = (s.exch y).opened) : Turn y s (s.setExch y e) := by
  refine ⟨⟨fun _ _ => rfl, fun x ne => ?_, fun _ _ => rfl, fun x => ?_, fun _ _ _ _ => id, rfl⟩, .of_cp rfl⟩
  · rw [State.exch_setExch, if_neg ne.symm]
  · rw [State.exch_setExch]
    split
    · subst x; exact opened
    · rfl

theorem turn_setPrevExch (e : Exchange) : Turn y s (s.setPrevExch y e) :=
  ⟨⟨fun _ _ => rfl, fun _ _ => rfl, fun _ _ => rfl, fun _ => rfl, fun _ _ _ _ => id, rfl⟩, .of_cp rfl⟩

theorem turn_raiseCrane (x : LinkNo) : Turn y s (raiseCrane t x s) :=
  .of_port (raiseCrane_port ..) (raising_raiseCrane ..)

theorem raising_recomputeStop (x : LinkNo) : Raising s (recomputeStop t x s) := by
  unfold recomputeStop
  dsimp only
  split
  · exact .of_cp rfl
  · refine Raising.trans ?_ (raising_raise t .quayStop noObject _)
    exact .of_cp rfl

theorem turn_recomputeStop (x : LinkNo) : Turn y s (recomputeStop t x s) := by
  refine ⟨?_, raising_recomputeStop t s x⟩
  rw [recomputeStop_frame]
  exact ⟨fun _ _ => rfl, fun _ _ => rfl, fun _ _ => rfl, fun _ => rfl, fun _ _ _ _ => id, rfl⟩

/-! ## Releases (R34, R65) -/

theorem stage_testDrain (h : HeadNo) (x : LinkNo) :
    ((testDrain t h s).record x).map Handover.stage = (s.record x).map Handover.stage := by
  cases record : s.record x with
  | none => rw [record_testDrain_none t s h record]
  | some w =>
    obtain ⟨v, found, beside⟩ := record_testDrain t h record
    rw [found, Option.map_some, beside]
    rfl

theorem turn_testDrain (h : HeadNo) : Turn y s (testDrain t h s) := by
  refine ⟨?_, ?_⟩
  · have stage := stage_testDrain t s h
    rw [testDrain_frame] at stage ⊢
    exact ⟨fun _ _ => rfl, fun _ _ => rfl, fun x _ => stage x, fun _ => rfl, fun _ _ _ _ => id, rfl⟩
  · unfold testDrain
    split
    · unfold completeDrain
      dsimp only
      refine Raising.trans ?_ (raising_raiseHead t h _)
      exact .of_cp rfl
    · exact .refl s

theorem turn_quietCells (p : Place) : Turn y s (quietCells y p s) := by
  have cells : ∀ g sl x r, (quietCells y p s).cell g sl = .crane x r → s.cell g sl = .crane x r := by
    intro g sl x r k
    rcases cell_quietCells_or y p s g sl with quiet | same
    · rw [quiet] at k; cases k
    · rw [← same, k]
  rw [quietCells_frame] at cells ⊢
  exact ⟨⟨fun _ _ => rfl, fun _ _ => rfl, fun _ _ => rfl, fun _ => rfl, cells, rfl⟩, .of_cp rfl⟩

theorem turn_released (p : Place) (r : Held) : Turn y s (released t y s p r) :=
  ((turn_setResv y s r).trans (turn_quietCells y _ p)).trans (turn_testDrain t y _ p.head)

theorem turn_releasePrimary : Turn y s (releasePrimary t y s) := by
  rw [releasePrimary_eq]
  split
  · exact .refl y s
  · exact turn_released t y s _ _

theorem turn_releaseTarget : Turn y s (releaseTarget t y s) := by
  rw [releaseTarget_eq]
  split
  · exact .refl y s
  · exact turn_released t y s _ _

/-! ## Health, tests and outcomes (R97 to R104) -/

theorem turn_setHealth (h : Health) : Turn y s (setHealth t y h s) := by
  unfold setHealth
  split
  · exact .refl y s
  · exact ((turn_updateLink y s _).trans (turn_raiseCrane t y _ y)).trans (turn_recomputeStop t y _ y)

theorem turn_abortTest : Turn y s (abortTest t y s) := by
  unfold abortTest
  split
  · exact (turn_updateLink y s _).trans (turn_raiseCrane t y _ y)
  · exact .refl y s

theorem turn_enterLost : Turn y s (enterLost t y s) :=
  ((turn_updateLink y s _).trans (turn_setHealth t y _ .lost)).trans (turn_abortTest t y _)

theorem turn_countTestExchange (errors : Nat) : Turn y s (countTestExchange t y errors s) := by
  unfold countTestExchange
  split
  · dsimp only
    split
    · exact (turn_updateLink y s _).trans (turn_raiseCrane t y _ y)
    · exact turn_updateLink y s _
  · exact .refl y s

theorem turn_settleTest (e : Exchange) : Turn y s (settleTest t y e s) := by
  unfold settleTest
  split
  · split
    · exact turn_countTestExchange t y s _
    · exact Turn.trans (u := { s with freeUsed := s.freeUsed + 1 }) ⟨⟨fun _ _ => rfl, fun _ _ => rfl, fun _ _ => rfl,
        fun _ => rfl, fun _ _ _ _ => id, rfl⟩, .of_cp rfl⟩ (turn_countTestExchange t y _ _)
  · exact turn_countTestExchange t y s 64
  · exact .refl y s

theorem turn_stepRecovery (success : Bool) : Turn y s (stepRecovery t y success s) := by
  unfold stepRecovery
  split
  · dsimp only
    split
    · exact (turn_updateLink y s _).trans (turn_setHealth t y _ .good)
    · exact turn_updateLink y s _
  · exact turn_enterLost t y s

theorem turn_scoreOutcome (success : Bool) : Turn y s (scoreOutcome t y success s) := by
  unfold scoreOutcome
  split
  · exact .refl y s
  · exact turn_stepRecovery t y s success
  · dsimp only
    split
    · exact turn_enterLost t y s
    · exact (turn_updateLink y s _).trans (turn_setHealth t y _ _)

/-! ## Handover steps (R109 to R119) -/

theorem turn_unplace : Turn y s (unplace t y s) :=
  ((((turn_releasePrimary t y s).trans (turn_releaseTarget t y _)).trans (turn_updateRecord y _ _)).trans
    (turn_enterLost t y _)).trans (turn_raiseCrane t y _ y)

theorem turn_enterDual (p : Place) (forced : Bool) : Turn y s (enterDual y p forced s) :=
  (((turn_setResv y s _).trans (turn_updateRecord y _ _)).trans (turn_setExch y _ _ (by rfl))).trans
    (turn_setPrevExch y _ _)

theorem turn_completeHandover : Turn y s (completeHandover t y s) := by
  unfold completeHandover
  split
  · exact .refl y s
  · exact (((turn_releasePrimary t y s).trans (turn_setResv y _ _)).trans (turn_updateRecord y _ _)).trans
      (turn_raiseCrane t y _ y)

theorem turn_dropTarget : Turn y s (dropTarget t y s) :=
  ((turn_releaseTarget t y s).trans (turn_updateRecord y _ _)).trans (turn_raiseCrane t y _ y)

theorem turn_attemptForced : Turn y s (attemptForced y s) := by
  unfold attemptForced
  dsimp only
  split
  · exact (turn_enterDual y s _ true).trans (turn_updateRecord y _ _)
  · exact turn_updateRecord y s _

theorem turn_stepDual (w : Handover) : Turn y s (stepDual t y w s) := by
  unfold stepDual
  split
  · exact (turn_updateRecord y s _).trans (turn_dropTarget t y _)
  · exact turn_updateRecord y s _

theorem turn_settleHandover (e : Exchange) : Turn y s (settleHandover t y e s) := by
  unfold settleHandover
  split
  · exact .refl y s
  · split
    · split
      · exact turn_stepDual t y s _
      · exact .refl y s
    · split
      · split
        · exact turn_unplace t y s
        · exact turn_attemptForced y s
      · exact .refl y s
    · exact .refl y s

/-! ## Settlement and judgement (R94 to R97) -/

/-- The outcome of an exchange before it acts on the handover state (R97, R99, R101 to R104). -/
def outcomeTaken (t : Time) (x : LinkNo) (e : Exchange) (result : CellResult) (s : State) : State :=
  scoreOutcome t x (result == .success) (settleTest t x e
    (updateLink x (fun l => { l with outcomes := l.outcomes.count result, farEnd := !(result == .success) }) s))

theorem settle_eq (e : Exchange) (result : CellResult) :
    settle t y e result s = settleHandover t y e (outcomeTaken t y e result s) := rfl

theorem turn_outcomeTaken (e : Exchange) (result : CellResult) : Turn y s (outcomeTaken t y e result s) :=
  ((turn_updateLink y s _).trans (turn_settleTest t y _ e)).trans (turn_scoreOutcome t y _ _)

theorem turn_settle (e : Exchange) (result : CellResult) : Turn y s (settle t y e result s) :=
  (turn_outcomeTaken t y s e result).trans (turn_settleHandover t y _ e)

theorem turn_setFrameExch (r : SlotRecord) (e : Exchange) (opened : e.opened = (frameExch r s y).opened) :
    Turn y s (setFrameExch r y e s) := by
  unfold setFrameExch
  unfold frameExch at opened
  split
  · exact turn_setPrevExch y s e
  · rename_i current
    rw [if_neg current] at opened
    exact turn_setExch y s e opened

theorem turn_settleAtClose (r : SlotRecord) : Turn y s (settleAtClose r y s) := by
  unfold settleAtClose
  dsimp only
  split
  · exact .refl y s
  · split
    · exact .refl y s
    · exact (turn_setFrameExch y s r _ (by rfl)).trans (turn_settle r.time y _ _ _)

theorem elsewhere_takeStatus (st : CraneStatus) : Elsewhere y s (takeStatus t y st s) := by
  have taken := (turn_updateLink y s fun l => { l with latest := some st }).trans (turn_recomputeStop t y _ y)
  have offered : ∀ m u, Elsewhere y u (offerNotice m u) := fun m u => .of_port (offerNotice_port m u)
  unfold takeStatus
  dsimp only
  split
  · refine taken.toElsewhere.trans ?_
    unfold offerCraneAlarm
    split
    · exact (turn_updateLink y _ _).toElsewhere
    · split
      · exact (offered _ _).trans (turn_updateLink y _ _).toElsewhere
      · exact offered _ _
  · exact taken.toElsewhere

theorem elsewhere_judgeCell (r : SlotRecord) (role : Role) (h : HeadNo) : Elsewhere y s (judgeCell r y role h s) := by
  unfold judgeCell
  dsimp only
  split
  · exact (turn_setFrameExch y s r _ (by rfl)).toElsewhere
  · have taken := fun st => (turn_setFrameExch y s r { frameExch r s y with
      best := some .success, firstUp := if (frameExch r s y).firstUp.isSome then (frameExch r s y).firstUp else some st }
      (by rfl)).toElsewhere.trans (elsewhere_takeStatus r.time y _ st.status)
    split
    · exact (taken _).trans (turn_completeHandover r.time y _).toElsewhere
    · exact taken _

theorem elsewhere_closeExchange (r : SlotRecord) : Elsewhere y s (closeExchange r y s) := by
  unfold closeExchange
  split
  · exact .refl y s
  · split
    · exact .refl y s
    · exact ((Elsewhere.forEach _ (fun h s => elsewhere_judgeCell y s r .primary h) s).trans
        (.forEach _ (fun h s => elsewhere_judgeCell y s r .target h) _)).trans (turn_settleAtClose y _ r).toElsewhere

end

end Sys2Proof.Machine
end

section
/-! Quay hold (R91, R100), and the parts of a slot close that end a recovery or a test (R99, R104, log entry 8). -/

namespace Sys2Proof.Machine

/-! ## The abort of tests (R100) -/

section
variable {t : Time} {x : LinkNo} {s : State}

/-- A link whose test was aborted with progress `p`. -/
def Link.aborted (l : Link) (p : TestProgress) : Link :=
  { l with mode := .standby, test := none, testResult := some ⟨p.done, p.bitErrors, true⟩ }

theorem abortTest_running {p : TestProgress} (mode : (s.link x).mode = .test) (test : (s.link x).test = some p) :
    abortTest t x s = raiseCrane t x (s.setLink x ((s.link x).aborted p)) := by
  simp only [abortTest, mode, test]
  rfl

theorem abortTest_idle (mode : (s.link x).mode ≠ .test) : abortTest t x s = s := by
  unfold abortTest
  split
  · exact absurd ‹_› mode
  · rfl

theorem abortTest_frame (t : Time) (x : LinkNo) (s : State) :
    abortTest t x s = { s with cle := { s.cle with links := (abortTest t x s).cle.links }, cp := (abortTest t x s).cp } := by
  unfold abortTest
  split
  · rw [raiseCrane_port]
    rfl
  · rfl

/-- R91: every test in progress is aborted, by ascending link number (log entry 35). -/
def abortTests (t : Time) (s : State) : State := forLinks (abortTest t) s

theorem abortTests_frame (t : Time) (s : State) : abortTests t s =
    { s with cle := { s.cle with links := (abortTests t s).cle.links }, cp := (abortTests t s).cp } := by
  unfold abortTests
  exact forLinks_keeps (f := abortTest t)
    (P := fun u => u = { s with cle := { s.cle with links := u.cle.links }, cp := u.cp })
    (fun x u k => by rw [abortTest_frame, k]) rfl

/-- What the aborts leave of link `x`: its own abort, among those of the others. -/
theorem abortTests_link (t : Time) (x : LinkNo) (s : State) :
    (∀ p, (s.link x).mode = .test → (s.link x).test = some p →
      (abortTests t s).link x = (s.link x).aborted p ∧ CraneSeen (abortTests t s) x) ∧
    ((s.link x).mode ≠ .test → (abortTests t s).link x = s.link x) := by
  unfold abortTests
  obtain ⟨u, ⟨before, -⟩, after, raising⟩ := forLinks_around (R := fun s u => u.link x = s.link x ∧ Raising s u)
    (fun s => ⟨rfl, .refl s⟩) (fun a b => ⟨b.1.trans a.1, a.2.trans b.2⟩) x (f := abortTest t)
    (fun y ne s => ⟨(turn_abortTest t y s).link x ne.symm, (turn_abortTest t y s).raising⟩) s
  refine ⟨fun p mode test => ?_, fun mode => ?_⟩
  · rw [abortTest_running (before ▸ mode) (before ▸ test)] at after raising
    refine ⟨after.trans ?_, raising.craneSeen (craneSeen_raiseCrane ..)⟩
    rw [raiseCrane_port, before]
    exact State.link_setLink_same ..
  · rw [abortTest_idle (before ▸ mode)] at after
    exact after.trans before

theorem replies_abortTests (t : Time) (s : State) : (abortTests t s).cp.replies = s.cp.replies := by
  unfold abortTests
  exact forLinks_keeps (f := abortTest t) (P := fun u => u.cp.replies = s.cp.replies)
    (fun x u k => (turn_abortTest t x u).raising.replies.trans k) rfl

end

/-! ## Quay hold (R91) -/

section
variable {t : Time} {f : State → State} {s : State}

theorem changeHold_comes (before : holdInForce s = false) (after : holdInForce (f s) = true) :
    changeHold t f s = abortTests t (f s) :=
  if_pos (by rw [before, after]; rfl)

theorem changeHold_plain (k : holdInForce s = true ∨ holdInForce (f s) = false) : changeHold t f s = f s := by
  refine if_neg ?_
  rcases k with k | k
  · simp [k]
  · simp [k]

theorem changeHold_or (t : Time) (f : State → State) (s : State) :
    changeHold t f s = f s ∨ changeHold t f s = abortTests t (f s) := by
  by_cases plain : holdInForce s = true ∨ holdInForce (f s) = false
  · exact .inl (changeHold_plain plain)
  · obtain ⟨before, after⟩ := not_or.mp plain
    exact .inr (changeHold_comes (Bool.not_eq_true _ |>.mp before) (Bool.not_eq_false _ |>.mp after))

/-- A change of quay hold aborts tests at most. -/
theorem changeHold_frame (t : Time) (f : State → State) (s : State) : changeHold t f s =
    { f s with cle := { (f s).cle with links := (changeHold t f s).cle.links }, cp := (changeHold t f s).cp } := by
  rcases changeHold_or t f s with k | k
  · rw [k]
  · rw [k]
    exact abortTests_frame t (f s)

theorem replies_changeHold (t : Time) (f : State → State) (s : State) :
    (changeHold t f s).cp.replies = (f s).cp.replies := by
  rcases changeHold_or t f s with k | k
  · rw [k]
  · rw [k]
    exact replies_abortTests t (f s)

/-- What a change that leaves the links makes of link `x` (R91, R100). -/
theorem changeHold_link (t : Time) (x : LinkNo) (same : (f s).link x = s.link x) :
    (∀ p, holdInForce s = false → holdInForce (f s) = true → (s.link x).mode = .test → (s.link x).test = some p →
      (changeHold t f s).link x = (s.link x).aborted p ∧ CraneSeen (changeHold t f s) x) ∧
    ((holdInForce s = true ∨ holdInForce (f s) = false ∨ (s.link x).mode ≠ .test) →
      (changeHold t f s).link x = s.link x) := by
  obtain ⟨running, idle⟩ := abortTests_link t x (f s)
  rw [same] at running idle
  refine ⟨fun p before after => ?_, fun k => ?_⟩
  · rw [changeHold_comes before after]
    exact running p
  · by_cases plain : holdInForce s = true ∨ holdInForce (f s) = false
    · rw [changeHold_plain plain, same]
    · obtain ⟨before, after⟩ := not_or.mp plain
      rw [changeHold_comes (Bool.not_eq_true _ |>.mp before) (Bool.not_eq_false _ |>.mp after)]
      exact idle ((k.resolve_left before).resolve_left after)

end

/-- `s` with the host part of quay hold set by a code. -/
def setHost (code : Byte) (s : State) : State := { s with cle := { s.cle with hostHold := code != 0#8 } }

theorem hostPart (code : Byte) : (code != 0#8) = decide (code ≠ 0#8) := by
  rw [Bool.eq_iff_iff, bne_iff_ne, decide_eq_true_iff]

/-- What QUAY HOLD leaves beside links and Control Port (R91). -/
theorem changeHold_host (t : Time) (code : Byte) (s : State) :
    (changeHold t (setHost code) s).cle.hostHold = decide (code ≠ 0#8) ∧
      (changeHold t (setHost code) s).holdin = s.holdin ∧
      holdInForce (changeHold t (setHost code) s) = (decide (code ≠ 0#8) || s.holdin) := by
  have frame := changeHold_frame t (setHost code) s
  have host : (changeHold t (setHost code) s).cle.hostHold = decide (code ≠ 0#8) := by
    rw [frame]
    exact hostPart code
  have pin : (changeHold t (setHost code) s).holdin = s.holdin := by
    rw [frame]
    rfl
  exact ⟨host, pin, by rw [holdInForce, host, pin]⟩

theorem doQuayHold_eq (code : Byte) (s : State) : doQuayHold code s = (changeHold s.fs.now (setHost code) s,
    .ok (.quayHold (decide (code ≠ 0#8)) s.holdin (decide (code ≠ 0#8) || s.holdin))) := by
  obtain ⟨host, pin, force⟩ := changeHold_host s.fs.now code s
  have carried : doQuayHold code s = (changeHold s.fs.now (setHost code) s,
      .ok (.quayHold (changeHold s.fs.now (setHost code) s).cle.hostHold (changeHold s.fs.now (setHost code) s).holdin
        (holdInForce (changeHold s.fs.now (setHost code) s)))) := rfl
  rw [carried, host, pin, force]

/-! ## The end of a recovery and of a test (R99, R104) -/

theorem recoveryDue_iff {s : State} {x : LinkNo} : recoveryDue s x = true ↔
    (s.link x).mode ≠ .closed ∧ (s.link x).health = .recovering ∧ 15 ≤ (s.link x).recovery := by
  simp [recoveryDue, and_assoc]

theorem testDue_iff {s : State} {x : LinkNo} : testDue s x = true ↔
    (s.link x).mode = .test ∧ ∃ p, (s.link x).test = some p ∧ p.target ≤ p.done + 1 := by
  unfold testDue
  split
  · rename_i p mode test
    simp [mode, test]
  · rename_i other
    simp only [Bool.false_eq_true, false_iff]
    rintro ⟨mode, p, test, -⟩
    exact other p mode test

/-- The count of the sixteenth success, before the health follows (R104). -/
def Link.sixteenth (l : Link) : Link :=
  { l with recovery := 16, score := 0, mode := if l.mode = .service then .standby else l.mode }

/-- R104: the sixteenth success. -/
theorem stepRecovery_last {t : Time} {x : LinkNo} {s : State} (last : 15 ≤ (s.link x).recovery) :
    stepRecovery t x true s = setHealth t x .good (s.setLink x (s.link x).sixteenth) :=
  if_pos (show 16 ≤ (s.link x).recovery + 1 by omega)

theorem put_put {α : Type} {n : Nat} (v : Vector α n) (i : Fin n) (a b : α) : put (put v i a) i b = put v i b :=
  Vector.set_set ..

theorem stepRecovery_complete {t : Time} {x : LinkNo} {s : State} (health : (s.link x).health = .recovering)
    (last : 15 ≤ (s.link x).recovery) : CraneSeen (stepRecovery t x true s) x ∧
      ∃ c q d, stepRecovery t x true s = { s with
        cle := { s.cle with links := put s.cle.links x { (s.link x).sixteenth with health := .good }
                            contributions := c, qstop := q }
        cp := d } := by
  rw [stepRecovery_last last]
  have link := State.link_setLink_same s x (s.link x).sixteenth
  have ne : ((s.setLink x (s.link x).sixteenth).link x).health ≠ .good := by
    rw [link, Link.sixteenth, health]
    decide
  refine ⟨craneSeen_setHealth t x .good ne, ?_⟩
  obtain ⟨c, q, d, e⟩ := setHealth_frame t x .good ne
  refine ⟨c, q, d, e.trans ?_⟩
  rw [link]
  unfold State.setLink
  dsimp only
  rw [put_put]

/-- R99: the exchange that reaches the number set. -/
theorem countTestExchange_last {t : Time} {x : LinkNo} {s : State} {p : TestProgress} (errors : Nat)
    (mode : (s.link x).mode = .test) (test : (s.link x).test = some p) (last : p.target ≤ p.done + 1) :
    countTestExchange t x errors s = raiseCrane t x (s.setLink x { s.link x with
      mode := .standby, test := none, testResult := some ⟨p.done + 1, p.bitErrors + errors, false⟩ }) := by
  simp only [countTestExchange, mode, test]
  exact if_pos last

end Sys2Proof.Machine

open Sys2Proof Sys2Proof.Machine

/-- The HOLDIN part of O3. -/
theorem Sys2Proof.Machine.holdinChange_aborts (level : Bool) (s : State) (running : s.resetn = true) :
    ∃ t, exec (.holdinChange level) s = .next t ∧ t.holdin = level ∧
      ((holdInForce s = true ∨ holdInForce { s with holdin := level } = false) → t = { s with holdin := level }) ∧
      (holdInForce s = false → holdInForce { s with holdin := level } = true →
        (∀ x p, (s.link x).mode = .test → (s.link x).test = some p →
          t.link x = (s.link x).aborted p ∧ CraneSeen t x) ∧
        ∀ x, (s.link x).mode ≠ .test → t.link x = s.link x) ∧
      t = { s with holdin := level, cle := { s.cle with links := t.cle.links }, cp := t.cp } := by
  have event : exec (.holdinChange level) s = .next (changeHold s.fs.now (setHoldin level) s) :=
    congrArg Host.Outcome.next (if_pos running)
  have frame := changeHold_frame s.fs.now (setHoldin level) s
  have link := fun x => changeHold_link (f := setHoldin level) (s := s) s.fs.now x rfl
  exact ⟨_, event, by rw [frame]; rfl, changeHold_plain (f := setHoldin level),
    fun before after => ⟨fun x p => (link x).1 p before after, fun x k => (link x).2 (.inr (.inr k))⟩, frame⟩

/-- The QUAY HOLD part of O3. -/
theorem Sys2Proof.Machine.quayHold_aborts (tag code : Byte) (s : State) (ready : Ready s) :
    ∃ t, exec (.quayHold tag code) s = .next t ∧ t.cle.hostHold = decide (code ≠ 0#8) ∧ t.holdin = s.holdin ∧
      .reply 0x3B#8 tag (.ok (.quayHold (decide (code ≠ 0#8)) s.holdin (holdInForce t))) ∈ t.cp.replies ∧
      (∀ x p, holdInForce s = false → code ≠ 0#8 → (s.link x).mode = .test → (s.link x).test = some p →
        t.link x = (s.link x).aborted p ∧ CraneSeen t x) ∧
      (∀ x, (holdInForce s = true ∨ code = 0#8 ∨ (s.link x).mode ≠ .test) → t.link x = s.link x) ∧
      t = { s with cle := { s.cle with links := t.cle.links, hostHold := t.cle.hostHold }, cp := t.cp } := by
  obtain ⟨m, hm⟩ : ∃ m, m = Message.reply 0x3B#8 tag
    (.ok (.quayHold (decide (code ≠ 0#8)) s.holdin (decide (code ≠ 0#8) || s.holdin))) := ⟨_, rfl⟩
  have event : exec (.quayHold tag code) s = .next (changeHold s.fs.now (setHost code) (queueReply m s)) := by
    have next := exec_answered ready tag (c := .quayHold code) rfl nofun nofun
    rw [carryOut, carryOut, doQuayHold_eq, doQuayHold_eq] at next
    rw [hm]
    exact next
  obtain ⟨host, pin, force⟩ := changeHold_host s.fs.now code (queueReply m s)
  have link := fun x => changeHold_link (f := setHost code) (s := queueReply m s) s.fs.now x rfl
  refine ⟨_, event, host, pin, ?_, fun x p free on => (link x).1 p free (by simp [holdInForce, setHost, on]),
    fun x k => ?_, ?_⟩
  · rw [force, replies_changeHold]
    exact List.mem_append_right _ (List.mem_singleton.mpr hm.symm)
  · by_cases held : holdInForce s = true
    · exact (link x).2 (.inl held)
    · have free : holdInForce s = false := Bool.not_eq_true _ |>.mp held
      rw [holdInForce, Bool.or_eq_false_iff] at free
      refine (link x).2 (.inr (k.resolve_left held |>.imp_left fun off => ?_))
      rw [off]
      exact free.2
  · rw [changeHold_frame]
    rfl

/-- Settles O3, by the aborts that a change of quay hold makes where it brings quay hold into force. -/
theorem quayHoldChanges : Obligations.QuayHoldChanges :=
  ⟨fun level s low => congrArg Host.Outcome.next (if_neg (by simp [low])), holdinChange_aborts, quayHold_aborts⟩

/-- Settles O24: where the part is due it is the step of the settlement, elsewhere no change. -/
theorem recoveryAndTestComplete : Obligations.RecoveryAndTestComplete := by
  refine ⟨⟨fun s x running opened health last => ?_, fun s x running other => ?_⟩,
    fun s x d p running mode test last => ?_, fun s x d running other => ?_⟩
  · have event : exec (.recoveryComplete x) s = .next (stepRecovery s.fs.now x true s) := by
      rw [show exec (.recoveryComplete x) s = .next (finishRecovery x s) from whileRunning_running running, finishRecovery,
        if_pos (recoveryDue_iff.mpr ⟨opened, health, last⟩)]
      rfl
    obtain ⟨seen, c, q, e, frame⟩ := stepRecovery_complete (t := s.fs.now) health last
    refine ⟨_, event, seen, ?_, ?_, ?_, ?_, ?_⟩
    · rw [frame]
      exact get_put_same ..
    · rw [frame]
      exact fun y ne => ⟨get_put_other _ _ ne.symm, rfl, rfl⟩
    · rw [frame]; rfl
    · rw [frame]; rfl
    · rw [frame]
  · have idle : ¬ recoveryDue s x = true := by
      rw [recoveryDue_iff]
      rintro ⟨opened, health, last⟩
      rcases other with closed | sound | few
      · exact opened closed
      · exact sound health
      · omega
    rw [show exec (.recoveryComplete x) s = .next (finishRecovery x s) from whileRunning_running running, finishRecovery,
      if_neg idle]
  · have event : exec (.testComplete x d) s = .next (countTestExchange s.fs.now x d.1 s) := by
      rw [show exec (.testComplete x d) s = .next (finishTest x d s) from whileRunning_running running, finishTest,
        if_pos (testDue_iff.mpr ⟨mode, p, test, last⟩)]
      rfl
    rw [countTestExchange_last d.1 mode test last] at event
    exact ⟨_, event, craneSeen_raiseCrane .., raised_raise ⟨rfl, rfl, rfl, rfl, rfl⟩ .crane _, raiseCrane_port ..⟩
  · have idle : ¬ testDue s x = true := by
      rw [testDue_iff]
      rintro ⟨mode, p, test, last⟩
      rcases other with noTest | few
      · exact noTest mode
      · have := few p test
        omega
    rw [show exec (.testComplete x d) s = .next (finishTest x d s) from whileRunning_running running, finishTest,
      if_neg idle]
end

section
/-! SUPPORT. The test pattern: the bits drawn from a pattern register are the next of its sequence (R98, R99). -/

namespace Sys2Proof.Machine

/-- The register after `i` bits of the sequence at `r`. -/
def registerAt (r : BitVec 15) : Nat → BitVec 15
  | 0 => r
  | i + 1 => registerAt (patternStep r).2 i

theorem registerAt_succ (r : BitVec 15) (i : Nat) : registerAt r (i + 1) = (patternStep (registerAt r i)).2 := by
  induction i generalizing r with
  | zero => rfl
  | succ i ih => exact ih (patternStep r).2

/-- Bit `i` of the sequence at `r`: the top bit of the register after `i` bits. -/
def sequenceBit (r : BitVec 15) (i : Nat) : Bool := (registerAt r i).getLsbD 14

/-- R98: a step moves every bit up one place and puts the new bit, of the two oldest, in the lowest. -/
theorem getLsbD_patternStep (r : BitVec 15) {j : Nat} (h : j < 15) : (patternStep r).2.getLsbD j =
    if j = 0 then r.getLsbD 14 ^^ r.getLsbD 13 else r.getLsbD (j - 1) := by
  have new : (if (r.getLsbD 14 != r.getLsbD 13) = true then 1#15 else 0#15).getLsbD j =
      (decide (j = 0) && (r.getLsbD 14 ^^ r.getLsbD 13)) := by
    change (if (r.getLsbD 14 ^^ r.getLsbD 13) = true then 1#15 else 0#15).getLsbD j = _
    cases r.getLsbD 14 ^^ r.getLsbD 13
    · simp
    · simp [BitVec.getLsbD_one]
  rw [patternStep, BitVec.getLsbD_or, BitVec.getLsbD_shiftLeft, new]
  by_cases low : j = 0
  · simp [low]
  · have : ¬ j < 1 := by omega
    simp [low, h, this]

/-- The register holds the next 15 bits of its sequence, the first in its top bit. -/
theorem getLsbD_registerAt (r : BitVec 15) (i : Nat) {j : Nat} (h : j < 15) :
    (registerAt r i).getLsbD (14 - j) = sequenceBit r (i + j) := by
  induction j generalizing i with
  | zero => rfl
  | succ j ih =>
    have moved := getLsbD_patternStep (registerAt r i) (j := 14 - j) (by omega)
    rw [← registerAt_succ, ih (i + 1) (by omega), if_neg (by omega)] at moved
    rw [show i + (j + 1) = i + 1 + j by omega, moved]
    congr 1

/-- R98: every later bit is the exclusive-or of the bits 15 and 14 places before it. -/
theorem sequenceBit_later (r : BitVec 15) (i : Nat) :
    sequenceBit r (i + 15) = (sequenceBit r i ^^ sequenceBit r (i + 1)) := by
  have last := getLsbD_registerAt r (i + 1) (j := 14) (by omega)
  have new := getLsbD_patternStep (registerAt r i) (j := 0) (by omega)
  have second := getLsbD_registerAt r i (j := 1) (by omega)
  rw [← registerAt_succ, if_pos rfl] at new
  rw [show i + 15 = i + 1 + 14 by omega, ← last, ← second]
  exact new

/-- R99: `n` bits drawn behind `acc`, the first highest. -/
theorem drawBits_spec (n : Nat) (r : BitVec 15) (acc : BitVec 64) : (drawBits n r acc).1 = registerAt r n ∧
    ∀ k < 64, (drawBits n r acc).2.getLsbD k =
      if k < n then sequenceBit r (n - 1 - k) else acc.getLsbD (k - n) := by
  induction n generalizing r acc with
  | zero => exact ⟨rfl, fun k _ => rfl⟩
  | succ n ih =>
    obtain ⟨register, bits⟩ := ih (patternStep r).2 ((acc <<< 1) ||| (if (patternStep r).1 then 1#64 else 0#64))
    refine ⟨register, fun k hk => (bits k hk).trans ?_⟩
    have first : ∀ j < 64, (if (patternStep r).1 = true then 1#64 else 0#64).getLsbD j =
        (decide (j = 0) && sequenceBit r 0) := by
      intro j hj
      rw [show (patternStep r).1 = sequenceBit r 0 from rfl]
      cases sequenceBit r 0
      · simp
      · simp [BitVec.getLsbD_one]
    by_cases early : k < n
    · rw [if_pos early, if_pos (by omega), show n + 1 - 1 - k = n - 1 - k + 1 by omega]
      rfl
    · rw [if_neg early, BitVec.getLsbD_or, BitVec.getLsbD_shiftLeft, first _ (by omega)]
      by_cases own : k = n
      · simp [own]
      · have behind : ¬ k - n < 1 := by omega
        have low : k - n ≠ 0 := by omega
        rw [if_neg (by omega), show k - (n + 1) = k - n - 1 by omega]
        simp [low, behind]
        omega

/-- R98, R99: the pattern of a frame is the next 64 bits of the link's sequence. -/
theorem nextBits_drawBits (r : BitVec 15) : NextBits r (drawBits 64 r 0#64).2 (drawBits 64 r 0#64).1 := by
  obtain ⟨register, bits⟩ := drawBits_spec 64 r 0#64
  refine ⟨sequenceBit r, fun i hi => ?_, sequenceBit_later r, fun i hi => ?_, fun i hi => ?_⟩
  · have := getLsbD_registerAt r 0 hi
    rw [Nat.zero_add] at this
    exact this.symm
  · rw [bits _ (by omega), if_pos (by omega)]
    congr 1
    omega
  · rw [register, getLsbD_registerAt r 64 hi]

end Sys2Proof.Machine
end

section
/-! The down burst of a CRANE cell (R86 to R93, R99): the turn of its head among the others at a slot start, and the
content by health, mode, list and pattern. -/

namespace Sys2Proof.Machine

theorem exch_setExch_same (x : LinkNo) (e : Exchange) (s : State) : (s.setExch x e).exch x = e := by
  rw [State.exch_setExch, if_pos rfl]

/-- R175: a composition notes its burst and keeps what the link has of the frame. -/
theorem exch_noteStarted (t : Time) (x : LinkNo) (role : Role) (h : HeadNo) (check : Word16) (s : State) :
    ((noteStarted t x role h check s).exch x).started = (s.exch x).started ++ [⟨h, t.slot, role, check⟩] ∧
      ((noteStarted t x role h check s).exch x).consumed = (s.exch x).consumed ∧
      ((noteStarted t x role h check s).exch x).pattern = (s.exch x).pattern := by
  unfold noteStarted
  dsimp only
  rw [exch_setExch_same]
  exact ⟨rfl, rfl, rfl⟩

/-! ## What a composition leaves of the rest -/

section
variable (t : Time) (x : LinkNo) (s : State)

theorem turn_takeSnapshot : Turn x s (takeSnapshot t x s) := by
  unfold takeSnapshot
  split
  · exact turn_updateLink x s _
  · exact .refl x s

/-- The head entry `c` of the list of link `x` is consumed, `rest` stays (R88). -/
def consumeEntry (x : LinkNo) (c : CraneEntry) (rest : List CraneEntry) (s : State) : State :=
  { (s.setLink x { s.link x with list := rest, held := some c }).setExch x { s.exch x with consumed := some false } with
    cle := { ((s.setLink x { s.link x with list := rest, held := some c }).setExch x
      { s.exch x with consumed := some false }).cle with poolFree := s.cle.poolFree + 1 } }

theorem turn_consumeEntry (c : CraneEntry) (rest : List CraneEntry) : Turn x s (consumeEntry x c rest s) := by
  have written := (turn_setLink x s { s.link x with list := rest, held := some c }).trans
    (turn_setExch x _ { s.exch x with consumed := some false } (by rfl))
  exact ⟨⟨written.link, written.exch, written.stage, written.opened, written.cells, written.settings⟩, .of_cp rfl⟩

/-- A COMMAND burst repeats the held command, once more or list-dry, or consumes the head of the list (R88). -/
theorem composeCommand_cases : (composeCommand t x s).1 = s ∨
    (∃ e : Exchange, e.opened = (s.exch x).opened ∧ (composeCommand t x s).1 = s.setExch x e) ∨
    ∃ c rest, (composeCommand t x s).1 = consumeEntry x c rest s ∨
      (composeCommand t x s).1 = raiseListLow t x (consumeEntry x c rest s) := by
  unfold composeCommand
  dsimp only
  split
  · exact .inl rfl
  · exact .inl rfl
  · rename_i c rest _ _
    refine .inr (.inr ⟨c, rest, ?_⟩)
    split
    · exact .inr rfl
    · exact .inl rfl
  · exact .inr (.inl ⟨_, by rfl, rfl⟩)
  · exact .inl rfl

theorem turn_composeCommand : Turn x s (composeCommand t x s).1 := by
  rcases composeCommand_cases t x s with k | ⟨e, opened, k⟩ | ⟨c, rest, k | k⟩
  · rw [k]
    exact .refl x s
  · rw [k]
    exact turn_setExch x s e opened
  · rw [k]
    exact turn_consumeEntry x s c rest
  · rw [k]
    exact (turn_consumeEntry x s c rest).trans (.of_port (raiseListLow_port ..) (raising_raiseListLow ..))

theorem turn_composeTest : Turn x s (composeTest x s).1 := by
  unfold composeTest
  split
  · exact .refl x s
  · exact (turn_updateLink x s _).trans (turn_setExch x _ _ (by rfl))
  · exact .refl x s

theorem turn_composeContent : Turn x s (composeContent t x s).1 := by
  unfold composeContent
  dsimp only
  split
  · exact .refl x s
  · split
    · exact turn_composeTest x s
    · exact turn_composeCommand t x s
    · exact .refl x s

theorem turn_composeDown (role : Role) (h : HeadNo) : Turn x s (composeDown t x role h s).1 :=
  ((turn_takeSnapshot t x s).trans (turn_composeContent t x _)).trans (turn_setExch x _ _ (by rfl))

/-- No composition changes the host part of quay hold. -/
theorem hostHold_composeDown (role : Role) (h : HeadNo) :
    (composeDown t x role h s).1.cle.hostHold = s.cle.hostHold := by
  have snapshot : (takeSnapshot t x s).cle.hostHold = s.cle.hostHold := by
    unfold takeSnapshot
    split <;> rfl
  have command : ∀ u, (composeCommand t x u).1.cle.hostHold = u.cle.hostHold := by
    intro u
    rcases composeCommand_cases t x u with k | ⟨e, -, k⟩ | ⟨c, rest, k | k⟩
    · rw [k]
    · rw [k]; rfl
    · rw [k]; rfl
    · rw [k, raiseListLow_port]; rfl
  have content : ∀ u, (composeContent t x u).1.cle.hostHold = u.cle.hostHold := by
    intro u
    unfold composeContent
    dsimp only
    split
    · rfl
    · split
      · unfold composeTest
        split <;> rfl
      · exact command u
      · rfl
  exact (content _).trans snapshot

end

/-! ## The turns of the other heads -/

/-- The turn of a head whose cell is no CRANE cell of an open link leaves the Crane Link Engine and the Control Port. -/
theorem startCell_silent {t : Time} {g : HeadNo} {s : State}
    (k : ∀ x r, s.cell g t.slot = .crane x r → (s.head g).outOfService = true ∨ (s.link x).mode = .closed) :
    (startCell t g s).cle = s.cle ∧ (startCell t g s).cp = s.cp := by
  unfold startCell
  dsimp only
  split
  · exact ⟨rfl, rfl⟩
  · rename_i inside
    split
    case h_2 x r cell =>
      rw [if_pos ((k x r cell).resolve_left inside)]
      exact ⟨rfl, rfl⟩
    all_goals exact ⟨rfl, rfl⟩

/-- The turn of a head with a CRANE cell of an open link (R38, R86). -/
theorem startCell_composes {t : Time} {g : HeadNo} {x : LinkNo} {r : Role} {s : State}
    (cell : s.cell g t.slot = .crane x r) (inside : (s.head g).outOfService = false) (opened : (s.link x).mode ≠ .closed) :
    startCell t g s = sendOrder t g (.crane x r) true (composeDown t x r g s).2 (composeDown t x r g s).1 := by
  unfold startCell
  dsimp only
  rw [if_neg (by simp [inside]), cell]
  exact if_neg opened

/-- What the turns of the other heads at the start of slot `sl` keep for the turn of head `h` with its CRANE cell of link
`x`: of link `x` where it has no other cell there, of the pool where no other head has a CRANE cell. -/
structure Apart (h : HeadNo) (x : LinkNo) (sl : SlotNo) (s u : State) : Prop where
  aside : Aside h s u
  hold : u.cle.hostHold = s.cle.hostHold
  raising : Raising s u
  own : (∀ g r, g ≠ h → s.cell g sl ≠ .crane x r) → u.link x = s.link x ∧ u.exch x = s.exch x
  pool : (∀ g y r, g ≠ h → s.cell g sl ≠ .crane y r) → u.cle.poolFree = s.cle.poolFree

namespace Apart

variable {h : HeadNo} {x : LinkNo} {sl : SlotNo} {s u v : State}

theorem refl (h : HeadNo) (x : LinkNo) (sl : SlotNo) (s : State) : Apart h x sl s s :=
  ⟨.refl h s, rfl, .refl s, fun _ => ⟨rfl, rfl⟩, fun _ => rfl⟩

theorem trans (a : Apart h x sl s u) (b : Apart h x sl u v) : Apart h x sl s v where
  aside := a.aside.trans b.aside
  hold := b.hold.trans a.hold
  raising := a.raising.trans b.raising
  own k := by
    obtain ⟨link, exch⟩ := a.own k
    obtain ⟨link', exch'⟩ := b.own (by rw [a.aside.frame]; exact k)
    exact ⟨link'.trans link, exch'.trans exch⟩
  pool k := (b.pool (by rw [a.aside.frame]; exact k)).trans (a.pool k)

theorem holdInForce (a : Apart h x sl s u) : holdInForce u = holdInForce s := by
  rw [Machine.holdInForce, a.hold, a.aside.frame]
  rfl

end Apart

theorem apart_startCell (t : Time) (x : LinkNo) {g h : HeadNo} (ne : g ≠ h) (s : State) :
    Apart h x t.slot s (startCell t g s) := by
  have aside := aside_startCell t ne s
  by_cases silent : ∀ y r, s.cell g t.slot = .crane y r → (s.head g).outOfService = true ∨ (s.link y).mode = .closed
  · obtain ⟨cle, cp⟩ := startCell_silent silent
    exact ⟨aside, by rw [cle], .of_cp cp, fun _ => ⟨by rw [State.link, cle]; rfl, by rw [State.exch, cle]; rfl⟩,
      fun _ => by rw [cle]⟩
  · push Not at silent
    obtain ⟨y, r, cell, inside, opened⟩ := silent
    have inside : (s.head g).outOfService = false := Bool.not_eq_true _ |>.mp inside
    have turn := turn_composeDown t y s r g
    have hold := hostHold_composeDown t y s r g
    rw [startCell_composes cell inside opened] at aside ⊢
    refine ⟨aside, hold, turn.raising.trans (.of_cp rfl), fun alone => ?_, fun alone => absurd cell (alone g y r ne)⟩
    have other : x ≠ y := by
      rintro rfl
      exact alone g r ne cell
    exact ⟨turn.link x other, turn.exch x other⟩

/-! ## The turn of the head -/

/-- The slot start `t` of `s` has sent head `h` the down burst of link `x` that a composition `c` gave. -/
structure BurstSent (s t : State) (h : HeadNo) (x : LinkNo) (role : Role) (c : State × DownContent) : Prop where
  link : t.link x = c.1.link x
  started : (t.exch x).started = (c.1.exch x).started ++
    [⟨h, s.fs.now.slot, role, crc16 (downFields s.fs.now (c.1.link x) c.2)⟩]
  consumed : (t.exch x).consumed = (c.1.exch x).consumed
  pattern : (t.exch x).pattern = (c.1.exch x).pattern
  order : t.hp.orders.get h = some ⟨s.fs.now, 2#8, withCheck (downFields s.fs.now (c.1.link x) c.2)⟩
  pool : (∀ g y r, g ≠ h → s.cell g s.fs.now.slot ≠ .crane y r) → t.cle.poolFree = c.1.cle.poolFree
  raising : Raising c.1 t

/-- The link record with the interlock snapshot that its burst at the slot start of `s` carries (R93). -/
def snapped (s : State) (x : LinkNo) : Link :=
  { s.link x with snapshot :=
      if s.fs.now.frame.1 = (s.link x).phase ∧ (s.exch x).started = [] then (s.link x).staged else (s.link x).snapshot }

/-- State `u` is ready for the composition of the burst of link `x` at the slot start of `s`. -/
structure Composable (s : State) (h : HeadNo) (x : LinkNo) (u : State) : Prop where
  link : u.link x = snapped s x
  exch : u.exch x = s.exch x
  hold : holdInForce u = holdInForce s
  pool : (∀ g y r, g ≠ h → s.cell g s.fs.now.slot ≠ .crane y r) → u.cle.poolFree = s.cle.poolFree

theorem link_takeSnapshot (t : Time) (x : LinkNo) (s : State) : (takeSnapshot t x s).link x =
    { s.link x with snapshot :=
        if t.frame.1 = (s.link x).phase ∧ (s.exch x).started = [] then (s.link x).staged else (s.link x).snapshot } := by
  unfold takeSnapshot
  split
  · exact State.link_setLink_same ..
  · rfl

theorem takeSnapshot_frame (t : Time) (x : LinkNo) (s : State) :
    takeSnapshot t x s = { s with cle := { s.cle with links := (takeSnapshot t x s).cle.links } } := by
  unfold takeSnapshot
  split <;> rfl

section
variable {s : State} {h : HeadNo} {x : LinkNo} {role : Role} (air : s.fs.airStarted = true)
  (waiting : s.fs.slotStarted = false) (closed : s.hp.openSlot = none)
  (cell : s.cell h s.fs.now.slot = .crane x role) (alone : ∀ g r, g ≠ h → s.cell g s.fs.now.slot ≠ .crane x r)
  (inside : (s.head h).outOfService = false) (opened : (s.link x).mode ≠ .closed)
include air waiting closed cell alone inside opened

/-- R38, R86: the slot start composes and sends the burst of the link's cell. -/
theorem startSlot_sends :
    ∃ u, Composable s h x u ∧ BurstSent s (startSlot s) h x role (composeContent s.fs.now x u) := by
  rw [startSlot_running air waiting closed]
  obtain ⟨u, before, after⟩ := forHeads_around (R := Apart h x s.fs.now.slot) (.refl h x _) .trans h
    (f := startCell s.fs.now) (fun g ne => apart_startCell s.fs.now x ne) (slotBegun s)
  obtain ⟨link, exch⟩ := before.own alone
  have map : u.cell = s.cell := by
    funext g sl
    rw [before.aside.frame]
    rfl
  have sent := startCell_composes (g := h) (s := u) (t := s.fs.now) (by rw [map]; exact cell)
    (by rw [before.aside.head]; exact inside) (by rw [link]; exact opened)
  rw [show s.now = s.fs.now from rfl] at *
  rw [sent] at after
  generalize forHeads (startCell s.fs.now) (slotBegun s) = t at after
  have cells : ∀ g, (composeDown s.fs.now x role h u).1.cell g s.fs.now.slot = s.cell g s.fs.now.slot := fun g => by
    rw [(composing_composeDown u s.fs.now x role h).frame]
    exact congrFun (congrFun map g) _
  obtain ⟨link', exch'⟩ := after.own fun g r ne => by
    show (composeDown s.fs.now x role h u).1.cell g s.fs.now.slot ≠ _
    rw [cells]
    exact alone g r ne
  have order := after.aside.order
  obtain ⟨started, consumed, pattern⟩ := exch_noteStarted s.fs.now x role h
    (crc16 (downFields s.fs.now ((composeContent s.fs.now x (takeSnapshot s.fs.now x u)).1.link x)
      (composeContent s.fs.now x (takeSnapshot s.fs.now x u)).2)) (composeContent s.fs.now x (takeSnapshot s.fs.now x u)).1
  refine ⟨takeSnapshot s.fs.now x u, ⟨?_, ?_, ?_, fun free => ?_⟩, ⟨link', ?_, ?_, ?_, ?_, fun free => ?_, ?_⟩⟩
  · rw [link_takeSnapshot, link, exch]
    rfl
  · rw [takeSnapshot_frame]
    exact exch
  · rw [takeSnapshot_frame]
    exact before.holdInForce
  · rw [takeSnapshot_frame]
    exact before.pool free
  · rw [exch']
    exact started
  · rw [exch']
    exact consumed
  · rw [exch']
    exact pattern
  · exact order.trans (get_put_same ..)
  · refine after.pool fun g y r ne => ?_
    show (composeDown s.fs.now x role h u).1.cell g s.fs.now.slot ≠ _
    rw [cells]
    exact free g y r ne
  · exact (Raising.of_cp (s := (composeContent s.fs.now x (takeSnapshot s.fs.now x u)).1)
      (u := sendOrder s.fs.now h (.crane x role) true (composeDown s.fs.now x role h u).2
        (composeDown s.fs.now x role h u).1) rfl).trans after.raising

end

/-- A burst composed without a change of terminal, far-end and health is sent as R90 has it. -/
theorem BurstSent.sends {s t : State} {h : HeadNo} {x : LinkNo} {role : Role} {c : State × DownContent}
    (k : BurstSent s t h x role c) (started : (c.1.exch x).started = (s.exch x).started)
    (terminal : (c.1.link x).terminal = (s.link x).terminal) (farEnd : (c.1.link x).farEnd = (s.link x).farEnd)
    (health : (c.1.link x).health = (s.link x).health) :
    Sends s t h x role c.2.code c.2.listDry c.2.payload := by
  refine ⟨downFields s.fs.now (c.1.link x) c.2, ?_, k.order, by rw [k.started, started]⟩
  rw [downFields, terminal, farEnd, health, k.link]
  simp only [Time.bytes, bits3, byte, beq_iff_eq, List.append_assoc, List.cons_append, List.nil_append]

/-! ## The content (R87, R88, R99) -/

section
variable {t : Time} {x : LinkNo} {u : State}

/-- R87: the links whose bursts are HOLD. -/
def isHeld (s : State) (x : LinkNo) : Prop :=
  (s.link x).health = .lost ∨ (s.link x).health = .recovering ∨ holdInForce s = true

theorem composeContent_hold (k : isHeld u x) : composeContent t x u = (u, .hold) := if_pos k

section
variable (free : ¬ isHeld u x)
include free

theorem composeContent_standby (mode : (u.link x).mode = .standby) : composeContent t x u = (u, .idle) := by
  refine (if_neg free).trans ?_
  rw [mode]

theorem composeContent_service (mode : (u.link x).mode = .service) : composeContent t x u = composeCommand t x u := by
  refine (if_neg free).trans ?_
  rw [mode]

theorem composeContent_test (mode : (u.link x).mode = .test) : composeContent t x u = composeTest x u := by
  refine (if_neg free).trans ?_
  rw [mode]

end

theorem composeCommand_idle (none : (u.link x).held = none) (k : (u.exch x).consumed ≠ .none ∨ (u.link x).list = []) :
    composeCommand t x u = (u, .idle) := by
  unfold composeCommand
  dsimp only
  rw [none]
  cases consumed : (u.exch x).consumed with
  | some dry => rfl
  | none => rw [k.resolve_left fun other => other consumed]

theorem composeCommand_consumes {c : CraneEntry} {rest : List CraneEntry} (fresh : (u.exch x).consumed = none)
    (list : (u.link x).list = c :: rest) : composeCommand t x u =
      (if rest.length = (u.link x).lowMark then raiseListLow t x (consumeEntry x c rest u) else consumeEntry x c rest u,
        .command c false) := by
  unfold composeCommand
  dsimp only
  rw [fresh, list]
  rfl

theorem composeCommand_repeats {c : CraneEntry} (fresh : (u.exch x).consumed = none) (list : (u.link x).list = [])
    (held : (u.link x).held = some c) : composeCommand t x u =
      (u.setExch x { u.exch x with consumed := some (!c.endOfMove) }, .command c (!c.endOfMove)) := by
  unfold composeCommand
  dsimp only
  rw [fresh, list, held]

theorem composeCommand_again {c : CraneEntry} {dry : Bool} (consumed : (u.exch x).consumed = some dry)
    (held : (u.link x).held = some c) : composeCommand t x u = (u, .command c dry) := by
  unfold composeCommand
  dsimp only
  rw [consumed, held]

theorem composeTest_again {q : BitVec 64} (pattern : (u.exch x).pattern = some q) : composeTest x u = (u, .test q) := by
  unfold composeTest
  rw [pattern]

theorem composeTest_draws {p : TestProgress} (fresh : (u.exch x).pattern = none) (test : (u.link x).test = some p) :
    composeTest x u = ((u.setLink x { u.link x with
      test := some { p with register := (drawBits 64 p.register 0#64).1 } }).setExch x
        { u.exch x with pattern := some (drawBits 64 p.register 0#64).2 }, .test (drawBits 64 p.register 0#64).2) := by
  unfold composeTest
  rw [fresh, test]
  rfl

end

theorem drawn_spec (x : LinkNo) (s : State) (l : Link) (e : Exchange) :
    ((s.setLink x l).setExch x e).link x = l ∧ ((s.setLink x l).setExch x e).exch x = e :=
  ⟨State.link_setLink_same .., exch_setExch_same ..⟩

theorem link_consumeEntry (x : LinkNo) (c : CraneEntry) (rest : List CraneEntry) (s : State) :
    (consumeEntry x c rest s).link x = { s.link x with list := rest, held := some c } ∧
      (consumeEntry x c rest s).exch x = { s.exch x with consumed := some false } :=
  drawn_spec x s { s.link x with list := rest, held := some c } { s.exch x with consumed := some false }

/-- A raise of LIST-LOW for link `x` is seen (R89, R166). -/
theorem listLow_raiseListLow (t : Time) (x : LinkNo) (s : State) : flagSet (raiseListLow t x s) .listLow = true ∧
    (raiseListLow t x s).cp.listLowSet.getLsbD x.1 = true := by
  refine ⟨?_, ?_⟩
  · rw [raiseListLow, flagSet_raise]
    simp
  · rw [raiseListLow, raise_cp]
    simp [getLsbD_addMember]

end Sys2Proof.Machine

open Sys2Proof Sys2Proof.Machine

/-- Settles O8: the slot start sends what is composed, and the composition by health, mode, list and pattern. -/
theorem craneBurstIsComposed : Obligations.CraneBurstIsComposed := by
  intro s t h x role running air waiting closed cell alone inside opened event
  obtain rfl : startSlot s = t := by
    rw [show exec .slotStart s = .next (startSlot s) from whileRunning_running running] at event
    exact Host.Outcome.next.inj event
  obtain ⟨u, ready, sent⟩ := startSlot_sends air waiting closed cell alone inside opened
  have kept : ∀ {c}, composeContent s.fs.now x u = (u, c) →
      Sends s (startSlot s) h x role c.code c.listDry c.payload ∧ (startSlot s).link x = snapped s x ∧
        ((startSlot s).exch x).consumed = (s.exch x).consumed ∧ ((startSlot s).exch x).pattern = (s.exch x).pattern := by
    intro c content
    rw [content] at sent
    exact ⟨sent.sends (by rw [ready.exch]) (by rw [ready.link]; rfl) (by rw [ready.link]; rfl) (by rw [ready.link]; rfl),
      sent.link.trans ready.link, by rw [sent.consumed, ready.exch], by rw [sent.pattern, ready.exch]⟩
  have held : isHeld u x ↔
      (s.link x).health = .lost ∨ (s.link x).health = .recovering ∨ holdInForce s = true := by
    rw [isHeld, ready.link, ready.hold]
    rfl
  refine ⟨_, rfl, fun hold => kept (composeContent_hold (held.mpr hold)), fun found sound off => ?_⟩
  have free : ¬ isHeld u x := by
    rw [held]
    rintro (lost | recovering | hold)
    · exact found lost
    · exact sound recovering
    · rw [off] at hold
      cases hold
  have mode : ∀ {m}, (s.link x).mode = m → (u.link x).mode = m := fun k => by rw [ready.link]; exact k
  refine ⟨fun k => ?_, fun c rest service fresh list => ?_, fun c service fresh list hc => ?_,
    fun c dry service again hc => ?_, fun q test again => ?_, fun p test fresh hp => ?_⟩
  · have content : composeContent s.fs.now x u = (u, .idle) := by
      rcases k with standby | ⟨service, none, k⟩
      · exact composeContent_standby free (mode standby)
      · rw [composeContent_service free (mode service)]
        exact composeCommand_idle (by rw [ready.link]; exact none) (by rw [ready.link, ready.exch]; exact k)
    obtain ⟨burst, link, consumed, -⟩ := kept content
    exact ⟨burst, link, consumed⟩
  · rw [composeContent_service free (mode service), composeCommand_consumes (by rw [ready.exch]; exact fresh)
      (by rw [ready.link]; exact list)] at sent
    have low : ∀ v : State, (∃ d, v = { consumeEntry x c rest u with cp := d }) →
        v.link x = { snapped s x with list := rest, held := some c } ∧
        v.exch x = { s.exch x with consumed := some false } ∧ v.cle.poolFree = u.cle.poolFree + 1 := by
      rintro _ ⟨d, rfl⟩
      obtain ⟨link, exch⟩ := link_consumeEntry x c rest u
      rw [ready.link] at link
      rw [ready.exch] at exch
      exact ⟨link, exch, rfl⟩
    obtain ⟨link, exch, pool⟩ := low (if rest.length = (u.link x).lowMark then
      raiseListLow s.fs.now x (consumeEntry x c rest u) else consumeEntry x c rest u) (by
        split
        · exact ⟨_, raiseListLow_port ..⟩
        · exact ⟨_, rfl⟩)
    refine ⟨sent.sends (by rw [exch]) (by rw [link]; rfl) (by rw [link]; rfl) (by rw [link]; rfl), sent.link.trans link,
      by rw [sent.consumed, exch], fun only => ?_, fun reached => ?_⟩
    · rw [sent.pool only, pool, ready.pool only]
    · have mark : rest.length = (u.link x).lowMark := by rw [ready.link]; exact reached
      have raising := sent.raising
      rw [if_pos mark] at raising
      obtain ⟨flag, member⟩ := listLow_raiseListLow s.fs.now x (consumeEntry x c rest u)
      exact ⟨raising.flags _ flag, raising.listLowSet x member⟩
  · rw [composeContent_service free (mode service), composeCommand_repeats (by rw [ready.exch]; exact fresh)
      (by rw [ready.link]; exact list) (by rw [ready.link]; exact hc)] at sent
    have exch := exch_setExch_same x { u.exch x with consumed := some (!c.endOfMove) } u
    refine ⟨sent.sends (by rw [exch, ready.exch]) ?_ ?_ ?_, sent.link.trans ready.link, by rw [sent.consumed, exch]⟩
    · show (u.link x).terminal = _
      rw [ready.link]
      rfl
    · show (u.link x).farEnd = _
      rw [ready.link]
      rfl
    · show (u.link x).health = _
      rw [ready.link]
      rfl
  · have content : composeContent s.fs.now x u = (u, .command c dry) := by
      rw [composeContent_service free (mode service)]
      exact composeCommand_again (by rw [ready.exch]; exact again) (by rw [ready.link]; exact hc)
    obtain ⟨burst, link, consumed, -⟩ := kept content
    exact ⟨burst, link, consumed.trans again⟩
  · have content : composeContent s.fs.now x u = (u, .test q) := by
      rw [composeContent_test free (mode test)]
      exact composeTest_again (by rw [ready.exch]; exact again)
    obtain ⟨burst, link, -, pattern⟩ := kept content
    exact ⟨burst, link, pattern.trans again⟩
  · rw [composeContent_test free (mode test), composeTest_draws (by rw [ready.exch]; exact fresh)
      (by rw [ready.link]; exact hp)] at sent
    obtain ⟨link, exch⟩ := drawn_spec x u { u.link x with
      test := some { p with register := (drawBits 64 p.register 0#64).1 } }
        { u.exch x with pattern := some (drawBits 64 p.register 0#64).2 }
    generalize (u.setLink x _).setExch x _ = v at sent link exch
    rw [ready.link] at link
    rw [ready.exch] at exch
    exact ⟨_, _, nextBits_drawBits p.register, sent.sends (by rw [exch]) (by rw [link]; rfl) (by rw [link]; rfl)
      (by rw [link]; rfl), by rw [sent.pattern, exch], sent.link.trans link⟩
end

section
/-! SUPPORT. What the outcome of an exchange makes of its link: the record, its part in quay stop, and CRANE where health or
mode change (R97, R99 to R104, R107). -/

namespace Sys2Proof.Machine

/-- The contribution to quay stop kept for link `x` is what the link shows (R107). -/
def StopShown (x : LinkNo) (s : State) : Prop := s.cle.contributions.getLsbD x.1 = contributes s x

theorem contributes_link {x : LinkNo} {s : State} {l : Link} (k : s.link x = l) : contributes s x =
    (l.mode != .closed && (showsEStop l || (l.health == .lost && s.cov.settings.stopOnLost))) := by
  rw [contributes, k]

theorem stopShown_recomputeStop (t : Time) (x : LinkNo) (s : State) : StopShown x (recomputeStop t x s) := by
  rw [StopShown, contributes_recomputeStop, recomputeStop_frame]
  exact (getLsbD_withMember _ _ _ _ x.2).trans (if_pos rfl)

/-- What raises do not touch. -/
theorem StopShown.of_port {x : LinkNo} {s u : State} (k : StopShown x s) (port : u = { s with cp := u.cp }) :
    StopShown x u := by
  rw [port]
  exact k

/-- From `s` to `u` the record of link `x` has become `l` by the outcome of an exchange: a change of health or mode is seen
as CRANE, a change of health recomputes the link's part in quay stop (R101, R107). -/
structure Outcome (x : LinkNo) (l : Link) (s u : State) : Prop where
  link : u.link x = l
  frame : u = { s with
    freeUsed := u.freeUsed
    cle := { s.cle with links := u.cle.links, contributions := u.cle.contributions, qstop := u.cle.qstop }
    cp := u.cp }
  raising : Raising s u
  shown : StopShown x s → StopShown x u
  seen : l.health ≠ (s.link x).health ∨ l.mode ≠ (s.link x).mode → CraneSeen u x
  restopped : l.health ≠ (s.link x).health → StopShown x u

namespace Outcome

variable {x : LinkNo} {l m : Link} {s u v : State}

theorem refl (x : LinkNo) (s : State) : Outcome x (s.link x) s s :=
  ⟨rfl, rfl, .refl s, id, fun k => absurd rfl (k.elim id (absurd rfl ·)), fun k => absurd rfl k⟩

theorem trans (a : Outcome x l s u) (b : Outcome x m u v) : Outcome x m s v where
  link := b.link
  frame := by rw [b.frame, a.frame]
  raising := a.raising.trans b.raising
  shown k := b.shown (a.shown k)
  seen k := by
    by_cases own : m.health ≠ (u.link x).health ∨ m.mode ≠ (u.link x).mode
    · exact b.seen own
    · obtain ⟨health, mode⟩ := not_or.mp own
      rw [not_not] at health mode
      rw [health, mode, a.link] at k
      exact b.raising.craneSeen (a.seen k)
  restopped k := by
    by_cases own : m.health ≠ (u.link x).health
    · exact b.restopped own
    · rw [not_not] at own
      rw [own, a.link] at k
      exact b.shown (a.restopped k)

theorem exch (k : Outcome x l s u) : u.exch x = s.exch x := by rw [k.frame]; rfl

theorem record (k : Outcome x l s u) : u.record x = s.record x := by rw [k.frame]; rfl

end Outcome

/-! ## The parts (R99 to R104) -/

section
variable (t : Time) {x : LinkNo} {s : State} {l : Link}

theorem outcome_setLink (health : l.health = (s.link x).health) (mode : l.mode = (s.link x).mode)
    (latest : l.latest = (s.link x).latest) : Outcome x l s (s.setLink x l) where
  link := State.link_setLink_same ..
  frame := rfl
  raising := .of_cp rfl
  shown k := by
    rw [StopShown, contributes_link (State.link_setLink_same s x l)] at *
    rw [mode, showsEStop, latest, health]
    exact k
  seen k := by
    rcases k with k | k
    · exact absurd health k
    · exact absurd mode k
  restopped k := absurd health k

/-- A change of mode between open ones that raises CRANE (R99, R100). -/
theorem outcome_raised (health : l.health = (s.link x).health) (opened : l.mode ≠ .closed)
    (was : (s.link x).mode ≠ .closed) (latest : l.latest = (s.link x).latest) :
    Outcome x l s (raiseCrane t x (s.setLink x l)) where
  link := by
    rw [raiseCrane_port]
    exact State.link_setLink_same ..
  frame := by
    rw [raiseCrane_port]
    rfl
  raising := (Raising.of_cp (s := s) (u := s.setLink x l) rfl).trans (raising_raiseCrane ..)
  shown k := by
    refine StopShown.of_port (s := s.setLink x l) ?_ (raiseCrane_port ..)
    rw [StopShown, contributes_link rfl] at k
    rw [StopShown, contributes_link (State.link_setLink_same s x l), showsEStop, latest, health,
      bne_iff_ne.mpr opened]
    rw [bne_iff_ne.mpr was] at k
    exact k
  seen _ := craneSeen_raiseCrane ..
  restopped k := absurd health k

/-- A change of health (R101). -/
theorem outcome_setHealth {h : Health} (ne : l.health ≠ h) :
    Outcome x { l with health := h } s (setHealth t x h (s.setLink x l)) := by
  have link := State.link_setLink_same s x l
  have change : ((s.setLink x l).link x).health ≠ h := by rw [link]; exact ne
  have shown : StopShown x (setHealth t x h (s.setLink x l)) := by
    rw [setHealth, if_neg change]
    exact stopShown_recomputeStop ..
  have seen := craneSeen_setHealth t x h change
  have raising := (turn_setHealth t x (s.setLink x l) h).raising
  obtain ⟨c, q, d, e⟩ := setHealth_frame t x h change
  refine ⟨?_, ?_, (Raising.of_cp (s := s) (u := s.setLink x l) rfl).trans raising, fun _ => shown, fun _ => seen,
    fun _ => shown⟩
  · rw [e, link]
    exact get_put_same ..
  · rw [e]
    rfl

/-- R101, R102: score, recovery count and health are written. -/
theorem outcome_graded (h : Health) (health : l.health = (s.link x).health) (mode : l.mode = (s.link x).mode)
    (latest : l.latest = (s.link x).latest) :
    Outcome x { l with health := h } s (setHealth t x h (s.setLink x l)) := by
  by_cases same : l.health = h
  · have kept : setHealth t x h (s.setLink x l) = s.setLink x l :=
      if_pos (by rw [State.link_setLink_same]; exact same)
    rw [kept, ← same]
    exact outcome_setLink health mode latest
  · exact outcome_setHealth t same

/-- R100: the abort of a test. -/
theorem outcome_abortTest {p : TestProgress} (mode : (s.link x).mode = .test) (test : (s.link x).test = some p) :
    Outcome x ((s.link x).aborted p) s (abortTest t x s) := by
  rw [abortTest_running mode test]
  exact outcome_raised t rfl (show Mode.standby ≠ .closed by decide) (by rw [mode]; decide) rfl

/-- A link in LOST (R103). -/
def Link.lost (l : Link) : Link := { l with health := .lost, score := 255, recovery := 0 }

theorem enterLost_eq (t : Time) (x : LinkNo) (s : State) : enterLost t x s =
    abortTest t x (setHealth t x .lost (s.setLink x { s.link x with score := 255, recovery := 0 })) := rfl

theorem outcome_enterLost (untested : (s.link x).mode ≠ .test) : Outcome x (s.link x).lost s (enterLost t x s) := by
  have graded := outcome_graded t (s := s) (x := x) (l := { s.link x with score := 255, recovery := 0 }) .lost rfl rfl rfl
  rw [enterLost_eq, abortTest_idle (by rw [graded.link]; exact untested)]
  exact graded

theorem outcome_enterLost_test {p : TestProgress} (mode : (s.link x).mode = .test) (test : (s.link x).test = some p) :
    Outcome x ((s.link x).lost.aborted p) s (enterLost t x s) := by
  have graded := outcome_graded t (s := s) (x := x) (l := { s.link x with score := 255, recovery := 0 }) .lost rfl rfl rfl
  have aborted := outcome_abortTest t (s := setHealth t x .lost (s.setLink x _)) (x := x) (p := p)
    (by rw [graded.link]; exact mode) (by rw [graded.link]; exact test)
  rw [graded.link] at aborted
  rw [enterLost_eq]
  exact graded.trans aborted

/-! ## The score (R101, R102) -/

/-- A link whose health is read from the score `n` (R101 to R103). -/
def Link.graded (l : Link) (n : Nat) : Link :=
  { l with score := n, health := healthOf n, recovery := if n = 255 then 0 else l.recovery }

section
variable {success : Bool}

/-- Health is read from the score. -/
def Health.scored (h : Health) : Prop := h = .good ∨ h = .warned ∨ h = .degraded

theorem scoreOutcome_scored (fit : (s.link x).health.scored) : scoreOutcome t x success s =
    if nextScore (s.link x).score success = 255 then enterLost t x s
    else setHealth t x (healthOf (nextScore (s.link x).score success))
      (updateLink x (fun l => { l with score := nextScore (s.link x).score success }) s) := by
  unfold scoreOutcome
  rcases fit with e | e | e <;> rw [e]

theorem outcome_scored (fit : (s.link x).health.scored)
    (untested : (s.link x).mode ≠ .test ∨ nextScore (s.link x).score success ≠ 255) :
    Outcome x ((s.link x).graded (nextScore (s.link x).score success)) s (scoreOutcome t x success s) := by
  rw [scoreOutcome_scored t fit]
  by_cases lost : nextScore (s.link x).score success = 255
  · rw [if_pos lost, lost]
    exact outcome_enterLost t (untested.resolve_right (not_not.mpr lost))
  · rw [if_neg lost, Link.graded, if_neg lost]
    exact outcome_graded t (l := { s.link x with score := nextScore (s.link x).score success }) _ rfl rfl rfl

theorem outcome_scored_aborts {p : TestProgress} (fit : (s.link x).health.scored)
    (lost : nextScore (s.link x).score success = 255) (mode : (s.link x).mode = .test)
    (test : (s.link x).test = some p) : Outcome x ((s.link x).lost.aborted p) s (scoreOutcome t x success s) := by
  rw [scoreOutcome_scored t fit, if_pos lost]
  exact outcome_enterLost_test t mode test

/-- R103: in LOST score and health stand. -/
theorem outcome_lost (lost : (s.link x).health = .lost) : Outcome x (s.link x) s (scoreOutcome t x success s) := by
  unfold scoreOutcome
  rw [lost]
  exact .refl x s

end

/-! ## Recovery (R104) -/

theorem scoreOutcome_recovering {success : Bool} (recovering : (s.link x).health = .recovering) :
    scoreOutcome t x success s = stepRecovery t x success s := by
  unfold scoreOutcome
  rw [recovering]

theorem outcome_recovers (recovering : (s.link x).health = .recovering) (few : (s.link x).recovery < 15) :
    Outcome x { s.link x with recovery := (s.link x).recovery + 1 } s (scoreOutcome t x true s) := by
  rw [scoreOutcome_recovering t recovering]
  unfold stepRecovery
  dsimp only
  rw [if_pos rfl, if_neg (by omega)]
  exact outcome_setLink rfl rfl rfl

theorem outcome_recovered (recovering : (s.link x).health = .recovering) (last : 15 ≤ (s.link x).recovery) :
    Outcome x { (s.link x).sixteenth with health := .good } s (scoreOutcome t x true s) := by
  rw [scoreOutcome_recovering t recovering, stepRecovery_last last]
  refine outcome_setHealth t ?_
  rw [Link.sixteenth, recovering]
  decide

theorem outcome_relapses (recovering : (s.link x).health = .recovering) (untested : (s.link x).mode ≠ .test) :
    Outcome x (s.link x).lost s (scoreOutcome t x false s) := by
  rw [scoreOutcome_recovering t recovering]
  exact outcome_enterLost t untested

/-! ## Tests (R99) -/

/-- A link whose test has ended complete. -/
def Link.tested (l : Link) (done errors : Nat) : Link :=
  { l with mode := .standby, test := none, testResult := some ⟨done, errors, false⟩ }

theorem outcome_countTestExchange_last {p : TestProgress} (errors : Nat) (mode : (s.link x).mode = .test)
    (test : (s.link x).test = some p) (last : p.target ≤ p.done + 1) :
    Outcome x ((s.link x).tested (p.done + 1) (p.bitErrors + errors)) s (countTestExchange t x errors s) := by
  rw [countTestExchange_last errors mode test last]
  exact outcome_raised t rfl (show Mode.standby ≠ .closed by decide) (by rw [mode]; decide) rfl

theorem outcome_countTestExchange {p : TestProgress} (errors : Nat) (mode : (s.link x).mode = .test)
    (test : (s.link x).test = some p) (more : p.done + 1 < p.target) :
    Outcome x { s.link x with test := some { p with done := p.done + 1, bitErrors := p.bitErrors + errors } } s
      (countTestExchange t x errors s) := by
  have counted : countTestExchange t x errors s = s.setLink x { s.link x with
      test := some { p with done := p.done + 1, bitErrors := p.bitErrors + errors } } := by
    unfold countTestExchange
    split
    · rename_i q _ found
      obtain rfl : p = q := Option.some.inj (test.symm.trans found)
      exact if_neg (Nat.not_le.mpr more)
    · rename_i other
      exact absurd test (other p mode)
  rw [counted]
  exact outcome_setLink rfl rfl rfl

theorem settleTest_idle {e : Exchange} (mode : (s.link x).mode ≠ .test) : settleTest t x e s = s := by
  unfold settleTest
  split
  · exact absurd ‹_› mode
  · exact absurd ‹_› mode
  · rfl

theorem differingBits_eq (a b : BitVec 64) : differingBits a b = bitErrors a b := by
  rw [differingBits, bitErrors, ← List.map_coe_finRange_eq_range, List.filter_map, List.length_map]
  rfl

/-- The errors that the exchange adds to its test (R99, log entry 2). -/
def testErrors (e : Exchange) (freeUsed : Nat) (success : Bool) : Nat :=
  match success, e.firstUp with
  | true, some up => differingBits (e.pattern.getD (Config.freePattern freeUsed)) up.pattern
  | _, _ => 64

/-- R99: the settlement counts in the test, a free value being used up where the frame has no pattern (log entry 2). -/
theorem settleTest_counts {e : Exchange} {result : CellResult} (mode : (s.link x).mode = .test)
    (best : e.best = some result) : ∃ n, settleTest t x e s =
      countTestExchange t x (testErrors e s.freeUsed (result == .success)) { s with freeUsed := n } := by
  unfold settleTest testErrors
  rw [mode, best]
  cases result with
  | success =>
    cases up : e.firstUp with
    | none => exact ⟨s.freeUsed, rfl⟩
    | some up =>
      cases pattern : e.pattern with
      | some p => exact ⟨s.freeUsed, rfl⟩
      | none => exact ⟨s.freeUsed + 1, rfl⟩
  | _ => exact ⟨s.freeUsed, rfl⟩

theorem outcome_freeUsed (n : Nat) : Outcome x (s.link x) s { s with freeUsed := n } :=
  ⟨rfl, rfl, .of_cp rfl, id, fun k => absurd rfl (k.elim id (absurd rfl ·)), fun k => absurd rfl k⟩

end

end Sys2Proof.Machine
end

section
/-! SUPPORT. The outcome of a settled exchange by mode and health of its link (R97, R99 to R104). -/

namespace Sys2Proof.Machine

/-- A link whose counters and far-end have taken a result (R97). -/
def Link.told (l : Link) (kind : CellResult) : Link :=
  { l with outcomes := counted l.outcomes kind, farEnd := decide (kind ≠ .success) }

theorem count_eq (c : Outcomes) (kind : CellResult) : c.count kind = counted c kind := by
  cases kind <;> rfl

theorem outcomeTaken_eq (t : Time) (x : LinkNo) (e : Exchange) (kind : CellResult) (s : State) :
    outcomeTaken t x e kind s = scoreOutcome t x (kind == .success)
      (settleTest t x e (s.setLink x ((s.link x).told kind))) := by
  have told : updateLink x (fun l => { l with outcomes := l.outcomes.count kind, farEnd := !(kind == .success) }) s =
      s.setLink x ((s.link x).told kind) := by
    rw [updateLink, count_eq, Link.told]
    cases kind <;> rfl
  rw [outcomeTaken, told]

section
variable {t : Time} {x : LinkNo} {e : Exchange} {kind : CellResult} {s : State}

theorem outcome_told (kind : CellResult) (x : LinkNo) (s : State) :
    Outcome x ((s.link x).told kind) s (s.setLink x ((s.link x).told kind)) :=
  outcome_setLink rfl rfl rfl

/-! ## Outside TEST -/

section
variable (untested : (s.link x).mode ≠ .test)
include untested

/-- An outcome from the link's record that has taken the result is one of the settlement. -/
theorem outcome_untested {m : Link}
    (k : ∀ u, u.link x = (s.link x).told kind → Outcome x m u (scoreOutcome t x (kind == .success) u)) :
    Outcome x m s (outcomeTaken t x e kind s) := by
  have told := outcome_told kind x s
  rw [outcomeTaken_eq, settleTest_idle t (by rw [told.link]; exact untested)]
  exact told.trans (k _ told.link)

theorem outcomeTaken_scored (fit : (s.link x).health.scored) :
    Outcome x (((s.link x).told kind).graded (nextScore (s.link x).score (kind == .success))) s
      (outcomeTaken t x e kind s) := by
  refine outcome_untested untested fun u link => ?_
  have scored := outcome_scored t (success := kind == .success) (s := u) (x := x) (by rw [link]; exact fit)
    (.inl (by rw [link]; exact untested))
  rw [link] at scored
  exact scored

theorem outcomeTaken_lost (lost : (s.link x).health = .lost) :
    Outcome x ((s.link x).told kind) s (outcomeTaken t x e kind s) := by
  refine outcome_untested untested fun u link => ?_
  rw [← link]
  exact outcome_lost t (by rw [link]; exact lost)

theorem outcomeTaken_recovers (recovering : (s.link x).health = .recovering) (few : (s.link x).recovery < 15) :
    Outcome x { (s.link x).told .success with recovery := (s.link x).recovery + 1 } s
      (outcomeTaken t x e .success s) := by
  refine outcome_untested untested fun u link => ?_
  have recovers := outcome_recovers t (s := u) (x := x) (by rw [link]; exact recovering) (by rw [link]; exact few)
  rw [link] at recovers
  exact recovers

theorem outcomeTaken_recovered (recovering : (s.link x).health = .recovering) (last : 15 ≤ (s.link x).recovery) :
    Outcome x { ((s.link x).told .success).sixteenth with health := .good } s (outcomeTaken t x e .success s) := by
  refine outcome_untested untested fun u link => ?_
  have recovered := outcome_recovered t (s := u) (x := x) (by rw [link]; exact recovering) (by rw [link]; exact last)
  rw [link] at recovered
  exact recovered

theorem outcomeTaken_relapses (recovering : (s.link x).health = .recovering) (failed : kind ≠ .success) :
    Outcome x ((s.link x).told kind).lost s (outcomeTaken t x e kind s) := by
  refine outcome_untested untested fun u link => ?_
  rw [beq_eq_false_iff_ne.mpr failed]
  have relapses := outcome_relapses t (s := u) (x := x) (by rw [link]; exact recovering) (by rw [link]; exact untested)
  rw [link] at relapses
  exact relapses

end

/-! ## In TEST -/

/-- The progress of a test after an exchange with `errors` bit errors (R99). -/
def TestProgress.counted (p : TestProgress) (errors : Nat) : TestProgress :=
  { p with done := p.done + 1, bitErrors := p.bitErrors + errors }

section
variable {p : TestProgress} (mode : (s.link x).mode = .test) (test : (s.link x).test = some p)
  (best : e.best = some kind)
include mode best

/-- A count of the exchange from the link's record that has taken the result is one of the settlement. -/
theorem outcome_counted {m : Link} (k : ∀ u, u.link x = (s.link x).told kind →
      Outcome x m u (countTestExchange t x (testErrors e s.freeUsed (kind == .success)) u)) :
    Outcome x m s (settleTest t x e (s.setLink x ((s.link x).told kind))) := by
  have told := outcome_told kind x s
  obtain ⟨n, counts⟩ := settleTest_counts t (e := e) (result := kind) (s := s.setLink x ((s.link x).told kind)) (x := x)
    (by rw [told.link]; exact mode) best
  rw [counts]
  exact (told.trans (told.link ▸ outcome_freeUsed n)).trans (k _ told.link)

include test

/-- R99: the exchange that reaches the number set, whatever it makes of the score. -/
theorem outcomeTaken_tested (fit : (s.link x).health.scored) (last : p.target ≤ p.done + 1) :
    Outcome x ((((s.link x).told kind).tested (p.done + 1)
        (p.bitErrors + testErrors e s.freeUsed (kind == .success))).graded
      (nextScore (s.link x).score (kind == .success))) s (outcomeTaken t x e kind s) := by
  have counted : Outcome x (((s.link x).told kind).tested (p.done + 1)
      (p.bitErrors + testErrors e s.freeUsed (kind == .success))) s
      (settleTest t x e (s.setLink x ((s.link x).told kind))) := by
    refine outcome_counted mode best fun u link => ?_
    have ended := outcome_countTestExchange_last t (x := x) (s := u) (p := p)
      (testErrors e s.freeUsed (kind == .success)) (by rw [link]; exact mode) (by rw [link]; exact test) last
    rw [link] at ended
    exact ended
  rw [outcomeTaken_eq]
  generalize settleTest t x e _ = u at counted
  have scored := outcome_scored t (success := kind == .success) (s := u) (x := x) (by rw [counted.link]; exact fit)
    (.inl (by rw [counted.link]; exact show Mode.standby ≠ .test by decide))
  rw [counted.link] at scored
  exact counted.trans scored

/-- R99, R100: the test goes on, or is aborted by a score that reaches 255. -/
theorem outcomeTaken_testing (fit : (s.link x).health.scored) (more : p.done + 1 < p.target) {q : TestProgress}
    (progress : q = p.counted (testErrors e s.freeUsed (kind == CellResult.success))) :
    (nextScore (s.link x).score (kind == .success) ≠ 255 →
      Outcome x (Link.graded { (s.link x).told kind with test := some q }
        (nextScore (s.link x).score (kind == CellResult.success))) s
        (outcomeTaken t x e kind s)) ∧
    (nextScore (s.link x).score (kind == .success) = 255 →
      Outcome x ((Link.lost { (s.link x).told kind with test := some q }).aborted q) s (outcomeTaken t x e kind s)) := by
  have counted : Outcome x { (s.link x).told kind with test := some q } s
      (settleTest t x e (s.setLink x ((s.link x).told kind))) := by
    refine outcome_counted mode best fun u link => ?_
    have goesOn := outcome_countTestExchange t (x := x) (s := u) (p := p)
      (testErrors e s.freeUsed (kind == .success)) (by rw [link]; exact mode) (by rw [link]; exact test) more
    rw [link] at goesOn
    rw [progress]
    exact goesOn
  rw [outcomeTaken_eq]
  generalize settleTest t x e _ = u at counted
  have fits : (u.link x).health.scored := by rw [counted.link]; exact fit
  refine ⟨fun alive => ?_, fun lost => ?_⟩
  · have scored := outcome_scored t (success := kind == .success) (s := u) (x := x) fits
      (.inr (by rw [counted.link]; exact alive))
    rw [counted.link] at scored
    exact counted.trans scored
  · have aborts := outcome_scored_aborts t (success := kind == .success) (s := u) (x := x) (p := q) fits
      (by rw [counted.link]; exact lost) (by rw [counted.link]; exact mode) (by rw [counted.link])
    rw [counted.link] at aborts
    exact counted.trans aborts

end

end

end Sys2Proof.Machine
end

section
/-! SUPPORT. The judgement of one CRANE cell (R94), and the taking of the status of a valid up burst with its CRANE ALARM
notice (R95, R96). -/

namespace Sys2Proof.Machine

/-! ## The result of a cell (R94) -/

/-- R41: the return of an entry awaited in service. -/
theorem close_awaited {e : Entry} {x : LinkNo} {role : Role} (cell : e.cell = .crane x role)
    (awaited : e.awaited = true) (inside : e.outOfService = false) :
    e.close.ret = some (match e.ret with
      | some r => (r, .head)
      | none => (⟨.nothing, 0#8, []⟩, .deadline)) := by
  obtain ⟨c, a, ret, out⟩ := e
  subst cell awaited inside
  cases ret <;> rfl

section
variable {r : SlotRecord} {u : State} {x : LinkNo} {h : HeadNo} {e : RecordEntry} {level : Byte} {bytes : List Byte}

theorem judge_noReply (none : ∀ level bytes, e.ret ≠ some (⟨.decoded, level, bytes⟩, .head)) :
    judge r u x h e = .inl .noReply := by
  unfold judge
  split
  · exact absurd ‹_› (none _ _)
  · rfl

theorem judge_badCheck (ret : e.ret = some (⟨.decoded, level, bytes⟩, .head)) (bad : readUp bytes = none) :
    judge r u x h e = .inl .badCheck := by
  simp only [judge, ret, bad]

variable {up : UpBurst} (ret : e.ret = some (⟨.decoded, level, bytes⟩, .head)) (valid : readUp bytes = some up)
include ret valid

theorem judge_wrongTerminal (other : up.terminal ≠ (u.link x).terminal) : judge r u x h e = .inl .wrongTerminal := by
  simp only [judge, ret, valid, if_pos other]

theorem judge_echoMismatch (current : r.stale = false) (own : up.terminal = (u.link x).terminal)
    (other : ∀ c ∈ (u.exch x).started, c.head = h → c.slot = r.time.slot → up.status.echo ≠ c.check) :
    judge r u x h e = .inl .echoMismatch := by
  simp only [judge, ret, valid, if_neg (not_not.mpr own), frameExch_current x u current]
  split
  · rename_i c found
    have here := List.find?_some found
    rw [Bool.and_eq_true, beq_iff_eq, beq_iff_eq] at here
    exact if_neg (other c (List.mem_of_find?_eq_some found) here.1 here.2)
  · rfl

theorem judge_success (current : r.stale = false) (own : up.terminal = (u.link x).terminal)
    (sent : ∃ c ∈ (u.exch x).started, c.head = h ∧ c.slot = r.time.slot)
    (echoes : ∀ c ∈ (u.exch x).started, c.head = h → c.slot = r.time.slot → up.status.echo = c.check) :
    judge r u x h e = .inr up := by
  simp only [judge, ret, valid, if_neg (not_not.mpr own), frameExch_current x u current]
  split
  · rename_i c found
    have here := List.find?_some found
    rw [Bool.and_eq_true, beq_iff_eq, beq_iff_eq] at here
    exact if_pos (echoes c (List.mem_of_find?_eq_some found) here.1 here.2)
  · rename_i none
    obtain ⟨c, started, head, slot⟩ := sent
    have here := List.find?_eq_none.mp none c started
    simp [head, slot] at here

end

/-! ## The status taken (R95, R96) -/

section
variable {t : Time} {x : LinkNo} {s : State}

/-- R107, R165: the QUAY-STOP notice leaves room for one more message, where it is made at all. -/
theorem room_recomputeStop (k : (outbound s).length ≤ 62 ∨ (outbound s).length = 63 ∧
    (flagSet s .quayStop = true ∨ s.cp.enables.getLsbD Flag.quayStop.bit = false)) :
    (outbound (recomputeStop t x s)).length < 64 := by
  unfold recomputeStop
  dsimp only
  generalize withMember s.cle.contributions x.1 (contributes s x) = set
  split
  · have same : outbound { s with cle := { s.cle with contributions := set, qstop := set != 0#24 } } = outbound s := rfl
    rw [same]
    omega
  · obtain ⟨u, hu⟩ : ∃ u : State, u = { s with cle := { s.cle with contributions := set, qstop := set != 0#24 } } :=
      ⟨_, rfl⟩
    have port : u.cp = s.cp := by rw [hu]
    have same : outbound u = outbound s := by rw [outbound, port, outbound]
    rw [← hu, raisePlain]
    have replies := raise_replies t .quayStop noObject u
    rcases k with few | ⟨one, quiet⟩
    · have joined : (raise t .quayStop noObject u).cp.notices.length ≤ u.cp.notices.length + 1 := by
        rcases raise_notices t .quayStop noObject u with ⟨e, -⟩ | ⟨-, ⟨-, ⟨m, e⟩, -⟩ | ⟨-, e, -⟩⟩
        · rw [e]; omega
        · rw [e, List.length_append]; rfl
        · rw [e]; omega
      rw [← same, outbound, List.length_append] at few
      rw [outbound, replies, List.length_append]
      omega
    · have silent : (raise t .quayStop noObject u).cp.notices = u.cp.notices := by
        by_cases set : flagSet u .quayStop = true
        · rw [raise_set set]
        · have clear := Bool.not_eq_true _ |>.mp set
          rw [raise_disabled clear (port ▸ quiet.resolve_left fun k => set (by rw [flagSet, port]; exact k))]
          rfl
      rw [outbound, replies, silent, ← outbound, same]
      omega

/-- From `s` to `u` link `x` has taken status `st`, with its part in quay stop and its CRANE ALARM notice (R95, R96,
R107). -/
structure StatusTaken (t : Time) (x : LinkNo) (st : CraneStatus) (s u : State) : Prop where
  link : u.link x = { s.link x with
    latest := some st, pendingAlarms := (u.link x).pendingAlarms, alarmDrops := (u.link x).alarmDrops }
  frame : u = { s with
    cle := { s.cle with links := u.cle.links, contributions := u.cle.contributions, qstop := u.cle.qstop }
    cp := u.cp }
  shown : StopShown x u
  enables : u.cp.enables = s.cp.enables
  full : 64 ≤ (outbound s).length → 64 ≤ (outbound u).length
  old : st.alarm = alarmOf (s.link x).latest ∨ st.alarm = 0#8 →
    (u.link x).pendingAlarms = (s.link x).pendingAlarms ∧ (u.link x).alarmDrops = (s.link x).alarmDrops
  crowded : st.alarm ≠ alarmOf (s.link x).latest → st.alarm ≠ 0#8 → 2 ≤ (s.link x).pendingAlarms →
    (u.link x).pendingAlarms = (s.link x).pendingAlarms ∧ (u.link x).alarmDrops = bump (s.link x).alarmDrops
  offered : st.alarm ≠ alarmOf (s.link x).latest → st.alarm ≠ 0#8 → (s.link x).pendingAlarms < 2 →
    (u.link x).alarmDrops = (s.link x).alarmDrops ∧
    ((outbound s).length ≤ 62 ∨ (outbound s).length = 63 ∧
        (flagSet s .quayStop = true ∨ s.cp.enables.getLsbD Flag.quayStop.bit = false) →
      (u.link x).pendingAlarms = (s.link x).pendingAlarms + 1 ∧ .craneAlarm x (s.link x).terminal st.alarm
        (alarmOf (s.link x).latest) st.gantry t ∈ u.cp.notices) ∧
    (64 ≤ (outbound s).length → (u.link x).pendingAlarms = (s.link x).pendingAlarms ∧ u.cp.notices = s.cp.notices ∧
      bump s.cp.noticeDrops ≤ u.cp.noticeDrops ∧
      (s.cp.enables = 0#10 → u.cp.noticeDrops = bump s.cp.noticeDrops))

/-- The status itself, before its alarm is looked at (R95, R107). -/
def statusShown (t : Time) (x : LinkNo) (st : CraneStatus) (s : State) : State :=
  recomputeStop t x (s.setLink x { s.link x with latest := some st })

theorem takeStatus_old {st : CraneStatus} (k : st.alarm = alarmOf (s.link x).latest ∨ st.alarm = 0#8) :
    takeStatus t x st s = statusShown t x st s :=
  if_neg fun new => k.elim new.1 new.2

theorem takeStatus_new {st : CraneStatus} (new : st.alarm ≠ alarmOf (s.link x).latest) (some : st.alarm ≠ 0#8) :
    takeStatus t x st s = offerCraneAlarm t x st.alarm (alarmOf (s.link x).latest) st.gantry (statusShown t x st s) :=
  if_pos ⟨new, some⟩

theorem link_statusShown (st : CraneStatus) :
    (statusShown t x st s).link x = { s.link x with latest := some st } := by
  rw [statusShown, recomputeStop_frame]
  exact State.link_setLink_same ..

theorem statusShown_frame (st : CraneStatus) : statusShown t x st s = { s with
    cle := { s.cle with
      links := (statusShown t x st s).cle.links
      contributions := (statusShown t x st s).cle.contributions
      qstop := (statusShown t x st s).cle.qstop }
    cp := (statusShown t x st s).cp } := by
  rw [statusShown, recomputeStop_frame]
  rfl

theorem raising_statusShown (st : CraneStatus) : Raising s (statusShown t x st s) :=
  (Raising.of_cp (s := s) (u := s.setLink x { s.link x with latest := some st }) rfl).trans (raising_recomputeStop ..)

/-- A link with other alarm counts (R96). -/
def Link.alarmed (l : Link) (pending drops : Nat) : Link := { l with pendingAlarms := pending, alarmDrops := drops }

/-- The alarm counts of a link are no part of quay stop (R107). -/
theorem shown_alarmed {s : State} (k : StopShown x s) (pending drops : Nat) :
    StopShown x (s.setLink x ((s.link x).alarmed pending drops)) := by
  rw [StopShown, contributes_link (State.link_setLink_same ..)]
  exact k

section
variable {code previous : Byte} {gantry : Word16}

theorem alarmOffer_crowded (two : 2 ≤ (s.link x).pendingAlarms) : offerCraneAlarm t x code previous gantry s =
    s.setLink x ((s.link x).alarmed (s.link x).pendingAlarms (bump (s.link x).alarmDrops)) := if_pos two

theorem alarmOffer_joins (few : (s.link x).pendingAlarms < 2) (room : (outbound s).length < 64) :
    offerCraneAlarm t x code previous gantry s =
      { s.setLink x ((s.link x).alarmed ((s.link x).pendingAlarms + 1) (s.link x).alarmDrops) with
        cp := { s.cp with notices := s.cp.notices ++
          [.craneAlarm x (s.link x).terminal code previous gantry t] } } := by
  unfold offerCraneAlarm
  rw [if_neg (by omega), if_pos (hasRoom_iff.mpr room), offerNotice_roomy _ room]
  rfl

theorem alarmOffer_full (few : (s.link x).pendingAlarms < 2) (full : 64 ≤ (outbound s).length) :
    offerCraneAlarm t x code previous gantry s =
      { s with cp := { s.cp with noticeDrops := bump s.cp.noticeDrops } } := by
  unfold offerCraneAlarm
  rw [if_neg (by omega), if_neg (by rw [hasRoom_iff]; omega), offerNotice_full _ full]

end

theorem statusTaken (t : Time) (x : LinkNo) (st : CraneStatus) (s : State) :
    StatusTaken t x st s (takeStatus t x st s) := by
  have link := link_statusShown (t := t) (x := x) (s := s) st
  have frame := statusShown_frame (t := t) (x := x) (s := s) st
  have shown : StopShown x (statusShown t x st s) := stopShown_recomputeStop ..
  have raising := raising_statusShown (t := t) (x := x) (s := s) st
  have room : _ → (outbound (statusShown t x st s)).length < 64 :=
    room_recomputeStop (t := t) (x := x) (s := s.setLink x { s.link x with latest := some st })
  have pending : ((statusShown t x st s).link x).pendingAlarms = (s.link x).pendingAlarms := by rw [link]
  by_cases quiet : st.alarm = alarmOf (s.link x).latest ∨ st.alarm = 0#8
  · rw [takeStatus_old quiet]
    refine ⟨?_, frame, shown, raising.enables, raising.stillFull, fun _ => ?_, ?_, ?_⟩
    · rw [link]
    · rw [link]; exact ⟨rfl, rfl⟩
    · exact fun new some => absurd quiet (by simp [new, some])
    · exact fun new some => absurd quiet (by simp [new, some])
  · obtain ⟨new, some⟩ := not_or.mp quiet
    rw [takeStatus_new new some]
    generalize statusShown t x st s = w at link frame shown raising room pending
    obtain ⟨u, hu⟩ : ∃ u, u = offerCraneAlarm t x st.alarm (alarmOf (s.link x).latest) st.gantry w := ⟨_, rfl⟩
    rw [← hu]
    by_cases two : 2 ≤ (s.link x).pendingAlarms
    · rw [alarmOffer_crowded (pending ▸ two)] at hu
      have own : u.link x = { s.link x with latest := .some st, alarmDrops := bump (s.link x).alarmDrops } := by
        rw [hu, State.link_setLink_same, link]
        rfl
      refine ⟨by rw [own], by rw [hu, frame]; rfl, hu ▸ shown_alarmed shown _ _, by rw [hu]; exact raising.enables,
        fun was => by rw [hu]; exact raising.stillFull was, fun k => absurd k quiet, fun _ _ _ => by rw [own]; exact ⟨rfl, rfl⟩,
        fun _ _ few => absurd two (Nat.not_le.mpr few)⟩
    · have few : (w.link x).pendingAlarms < 2 := by omega
      by_cases full : 64 ≤ (outbound w).length
      · rw [alarmOffer_full few full] at hu
        have own : u.link x = { s.link x with latest := .some st } := by
          rw [hu]
          exact link
        have drops : bump s.cp.noticeDrops ≤ bump w.cp.noticeDrops := by
          have := raising.drops
          rw [bump, bump]
          omega
        refine ⟨by rw [own], by rw [hu, frame], hu ▸ shown, by rw [hu]; exact raising.enables,
          fun was => by rw [hu]; exact raising.stillFull was, fun k => absurd k quiet, fun _ _ k => absurd k two,
          fun _ _ _ => ⟨by rw [own], fun free => absurd (room free) (Nat.not_lt.mpr full), fun was => ⟨by rw [own], ?_⟩⟩⟩
        rw [hu]
        exact ⟨raising.full was, drops, fun off => congrArg bump (raising.silent off).2⟩
      · rw [alarmOffer_joins few (by omega)] at hu
        have own : u.link x = { s.link x with latest := .some st, pendingAlarms := (s.link x).pendingAlarms + 1 } := by
          rw [hu]
          refine (State.link_setLink_same ..).trans ?_
          rw [link]
          rfl
        refine ⟨by rw [own], by rw [hu, frame]; rfl, hu ▸ (shown_alarmed shown _ _).of_port rfl,
          by rw [hu]; exact raising.enables, fun was => absurd (raising.stillFull was) full, fun k => absurd k quiet,
          fun _ _ k => absurd k two, fun _ _ _ => ⟨by rw [own], fun _ => ⟨by rw [own], ?_⟩,
            fun was => absurd (raising.stillFull was) full⟩⟩
        rw [hu, link]
        exact List.mem_append_right _ (List.mem_singleton.mpr rfl)

end

end Sys2Proof.Machine
end

section
/-! SUPPORT. The turn of one link at the close of a slot of the frame in progress: its exchange settled by the link's only
CRANE cell in the record, and what handover steps, measurement and evaluation then leave (R94 to R97, R110 to R119). -/

namespace Sys2Proof.Machine

/-! ## The turn of the link -/

/-- A slot record of the frame in progress carries as link `x`'s only cell a CRANE cell on head `h`, and state `u` is ready
for the settlement of its exchange: no CRANE cell of the link is left unclosed (R97). -/
structure LastTurn (r : SlotRecord) (h : HeadNo) (x : LinkNo) (role : Role) (u : State) : Prop where
  current : r.stale = false
  own : ∀ q, craneHeads r x q = if q = role then [h] else []
  opened : (u.link x).mode ≠ .closed
  fresh : (u.exch x).opened = false
  settled : (u.exch x).settled = false
  cells : ∀ g sl q, u.cell g sl = .crane x q → sl ≤ u.fs.now.slot
  started : u.fs.slotStarted = true
  idle : u.hp.openSlot = none

section
variable {r : SlotRecord} {h : HeadNo} {x : LinkNo} {role : Role} {u v : State}

theorem closeExchange_turn (k : LastTurn r h x role u) :
    closeExchange r x u = settleAtClose r x (judgeCell r x role h u) := by
  rw [closeExchange, if_neg (by simp [k.opened, openedMeanwhile, k.fresh, k.current]), k.own, k.own]
  cases role <;> rfl

/-- R97: all the link's cells in the frame have closed. -/
theorem unclosedCell_none (cells : ∀ g sl q, u.cell g sl = .crane x q → sl ≤ u.fs.now.slot)
    (started : u.fs.slotStarted = true) (idle : u.hp.openSlot = none) : unclosedCell u x = false := by
  rw [unclosedCell, List.any_eq_false]
  intro g _
  rw [Bool.not_eq_true, List.any_eq_false]
  intro sl _ k
  rw [Bool.and_eq_true, idle, Bool.and_false, Bool.or_false, unstarted_iff, started] at k
  obtain ⟨crane, late⟩ := k
  have late : u.fs.now.slot < sl := by simpa using late
  cases cell : u.cell g sl with
  | crane y q =>
    rw [cell] at crane
    obtain rfl : y = x := beq_iff_eq.mp crane
    exact absurd (cells g sl q cell) (not_le.mpr late)
  | _ => rw [cell] at crane; cases crane

theorem settleAtClose_settles (current : r.stale = false) {e : Exchange} {kind : CellResult} (exch : v.exch x = e)
    (best : e.best = some kind) (settled : e.settled = false) (closed : unclosedCell v x = false) :
    settleAtClose r x v = settleHandover r.time x e
      (outcomeTaken r.time x e kind (v.setExch x { e with settled := true })) := by
  unfold settleAtClose
  simp only [frameExch_current x v current, setFrameExch_current x v current, exch, best]
  rw [if_neg (by simp [settled, closed]), settle_eq]

/-- The judgement of the link's cell leaves no cell unclosed. -/
theorem unclosedCell_judged (k : LastTurn r h x role u) : unclosedCell (judgeCell r x role h u) x = false := by
  have handling := handling_judgeCell (fun _ => True) x u r role h
  have cells := (elsewhere_judgeCell x u r role h).cells
  refine unclosedCell_none (fun g sl q cell => ?_) ?_ (handling.idle k.idle)
  · rw [handling.fs]
    exact k.cells g sl q (cells g sl x q cell)
  · rw [handling.fs]
    exact k.started

/-- R94, R97: a failure of a link none of whose cells has closed before. -/
theorem closeExchange_failed (k : LastTurn r h x role u) {kind : CellResult} (none : (u.exch x).best = none)
    (judged : judge r u x h (r.entries.get h) = .inl kind) : closeExchange r x u =
      settleHandover r.time x { u.exch x with best := some kind } (outcomeTaken r.time x
        { u.exch x with best := some kind } kind
        ((u.setExch x { u.exch x with best := some kind }).setExch x
          { u.exch x with best := some kind, settled := true })) := by
  have result : judgeCell r x role h u = u.setExch x { u.exch x with best := some kind } := by
    unfold judgeCell
    rw [judged]
    simp only [frameExch_current x u k.current, setFrameExch_current x u k.current, none, furthest]
  have closed := unclosedCell_judged k
  rw [closeExchange_turn k]
  rw [result] at closed ⊢
  exact settleAtClose_settles k.current (exch_setExch_same ..) rfl k.settled closed

/-- The exchange of a link with a success, and its first up burst (R86, R95). -/
def Exchange.heard (e : Exchange) (up : UpBurst) : Exchange :=
  { e with best := some .success, firstUp := if e.firstUp.isSome then e.firstUp else some up }

/-- The state after a success is taken, before it is settled: the status, and a handover that it completes (R95, R111). -/
def successTaken (r : SlotRecord) (x : LinkNo) (role : Role) (h : HeadNo) (up : UpBurst) (u : State) : State :=
  if completes r u x role h then
    completeHandover r.time x (takeStatus r.time x up.status (u.setExch x ((u.exch x).heard up)))
  else takeStatus r.time x up.status (u.setExch x ((u.exch x).heard up))

theorem completeHandover_cle (t : Time) (x : LinkNo) (s : State) : (completeHandover t x s).cle = s.cle := by
  unfold completeHandover
  split
  · rfl
  · dsimp only
    rw [raiseCrane_port]
    exact releasePrimary_cle t x s

theorem exch_successTaken (up : UpBurst) : (successTaken r x role h up u).exch x = (u.exch x).heard up := by
  have taken : (takeStatus r.time x up.status (u.setExch x ((u.exch x).heard up))).exch x = (u.exch x).heard up := by
    rw [(statusTaken r.time x up.status _).frame]
    exact exch_setExch_same ..
  unfold successTaken
  split
  · rw [State.exch, completeHandover_cle]
    exact taken
  · exact taken

/-- R94, R97: a success. -/
theorem closeExchange_heard (k : LastTurn r h x role u) {up : UpBurst}
    (judged : judge r u x h (r.entries.get h) = .inr up) : closeExchange r x u =
      settleHandover r.time x ((u.exch x).heard up) (outcomeTaken r.time x ((u.exch x).heard up) .success
        ((successTaken r x role h up u).setExch x { (u.exch x).heard up with settled := true })) := by
  have result : judgeCell r x role h u = successTaken r x role h up u := by
    unfold judgeCell
    rw [judged]
    simp only [frameExch_current x u k.current, setFrameExch_current x u k.current]
    rfl
  have closed := unclosedCell_judged k
  rw [closeExchange_turn k]
  rw [result] at closed ⊢
  exact settleAtClose_settles k.current (exch_successTaken up) rfl k.settled closed

end

/-! ## Steps that leave the links (R110 to R119) -/

/-- From `s` to `u` the links' records, their parts in quay stop and the settings stand. -/
structure LinksStand (s u : State) : Prop where
  links : u.cle.links = s.cle.links
  parts : u.cle.contributions = s.cle.contributions
  settings : u.cov.settings = s.cov.settings

namespace LinksStand

variable {s u v : State} {x : LinkNo}

theorem refl (s : State) : LinksStand s s := ⟨rfl, rfl, rfl⟩

theorem trans (a : LinksStand s u) (b : LinksStand u v) : LinksStand s v :=
  ⟨b.links.trans a.links, b.parts.trans a.parts, b.settings.trans a.settings⟩

theorem link (k : LinksStand s u) (x : LinkNo) : u.link x = s.link x := congrArg (·.get x) k.links

theorem shown (k : LinksStand s u) (was : StopShown x s) : StopShown x u := by
  rw [StopShown, k.parts, contributes_congr k.links (by rw [k.settings])]
  exact was

end LinksStand

section
variable (t : Time) (x : LinkNo) (s : State)

theorem stands_updateRecord (f : Handover → Handover) : LinksStand s (updateRecord x f s) := ⟨rfl, rfl, rfl⟩

theorem stands_completeHandover : LinksStand s (completeHandover t x s) := by
  have cle := completeHandover_cle t x s
  exact ⟨by rw [cle], by rw [cle], (turn_completeHandover t x s).settings⟩

theorem stands_dropTarget : LinksStand s (dropTarget t x s) := by
  have cle : (dropTarget t x s).cle = s.cle := by
    rw [dropTarget_eq, raiseCrane_port]
    exact releaseTarget_cle t x s
  exact ⟨by rw [cle], by rw [cle], (turn_dropTarget t x s).settings⟩

theorem stands_enterDual (p : Place) (forced : Bool) : LinksStand s (enterDual x p forced s) := ⟨rfl, rfl, rfl⟩

theorem stands_attemptForced : LinksStand s (attemptForced x s) := by
  unfold attemptForced
  dsimp only
  split
  · exact (stands_enterDual x s _ true).trans (stands_updateRecord x _ _)
  · exact stands_updateRecord x s _

theorem stands_stepDual (w : Handover) : LinksStand s (stepDual t x w s) := by
  unfold stepDual
  split
  · exact (stands_updateRecord x s _).trans (stands_dropTarget t x _)
  · exact stands_updateRecord x s _

theorem stands_startHandover (q : HeadNo) : LinksStand s (startHandover x q s) := by
  unfold startHandover
  split
  · exact stands_enterDual x s _ false
  · exact stands_updateRecord x s _

theorem stands_evaluate (c : HeadNo) (w : Handover) : LinksStand s (evaluate x c w s) := by
  unfold evaluate
  split
  · exact stands_updateRecord x s _
  · dsimp only
    split
    · exact (stands_updateRecord x s _).trans (stands_startHandover x _ _)
    · exact stands_updateRecord x s _

/-- A link in LOST as a loss leaves it, outside TEST (R103). -/
def Link.isLost (l : Link) : Prop := l.lost = l ∧ l.mode ≠ .test

theorem setLink_own : s.setLink x (s.link x) = s := by
  have links : put s.cle.links x (s.link x) = s.cle.links := Vector.set_getElem_self ..
  unfold State.setLink
  rw [links]

/-- R103: to enter LOST again changes nothing. -/
theorem enterLost_again (lost : (s.link x).isLost) : enterLost t x s = s := by
  obtain ⟨same, untested⟩ := lost
  have written : ({ s.link x with score := 255, recovery := 0 } : Link) = s.link x := by
    conv_rhs => rw [← same]
    conv_lhs => rw [← same]
    rfl
  have health : (s.link x).health = .lost := by
    rw [← same]
    rfl
  rw [enterLost_eq, written, setLink_own, setHealth, if_pos health, abortTest_idle untested]

/-- R76: the unplacing of a link already in LOST. -/
theorem unplace_lost (lost : (s.link x).isLost) : unplace t x s =
    raiseCrane t x (updateRecord x Handover.emptyWindow (releaseAll t x s)) := by
  have link : (updateRecord x Handover.emptyWindow (releaseAll t x s)).link x = s.link x := by
    rw [State.link, updateRecord, State.setRecord_cle, releaseAll_cle]
    rfl
  rw [unplace, enterLost_again t x _ (by rw [link]; exact lost)]

theorem stands_unplace (lost : (s.link x).isLost) : LinksStand s (unplace t x s) := by
  have settings := (turn_unplace t x s).settings
  rw [unplace_lost t x s lost] at settings ⊢
  have cle : (raiseCrane t x (updateRecord x Handover.emptyWindow (releaseAll t x s))).cle = s.cle := by
    rw [raiseCrane_port]
    exact releaseAll_cle t x s
  exact ⟨by rw [cle], by rw [cle], settings⟩

/-- R110, R112, R119: the settlement's handover step, where an unplacing would find the link in LOST. -/
theorem stands_settleHandover (e : Exchange) (lost : ∀ w, s.record x = some w → w.state = .candidate → w.forced = true →
    (s.link x).health = .lost → (s.link x).isLost) : LinksStand s (settleHandover t x e s) := by
  unfold settleHandover
  split
  · exact .refl s
  · rename_i w record
    split
    · split
      · exact stands_stepDual t x s w
      · exact .refl s
    · rename_i state
      split
      · rename_i forced
        split
        · exact stands_unplace t x s (lost w record state forced ‹_›)
        · exact stands_attemptForced x s
      · exact .refl s
    · exact .refl s

end

/-! ## Measurement, evaluation and advance (R48, R53, R1) -/

/-- The rest of a slot close with a CRANE cell of link `x` on head `h`, after its exchange (R41). -/
def closeRest (o : OpenSlot) (h : HeadNo) (x : LinkNo) (s : State) : State :=
  advanceSlot o (evaluateLink o.record x (measureHead o.record h s))

/-- `v` is handover record `w` after an evaluation, or without one: centre, counts of handovers and the forced flag stand
(R56, R109). -/
structure Evaluated (w v : Handover) : Prop where
  centre : v.centre = w.centre
  forced : w.forced = false → v.forced = false
  completed : v.completed = w.completed
  abandoned : v.abandoned = w.abandoned

theorem Evaluated.refl (w : Handover) : Evaluated w w := ⟨rfl, id, rfl, rfl⟩

theorem Evaluated.trans {u v w : Handover} (a : Evaluated w u) (b : Evaluated u v) : Evaluated w v :=
  ⟨b.centre.trans a.centre, fun k => b.forced (a.forced k), b.completed.trans a.completed, b.abandoned.trans a.abandoned⟩

theorem BesideQualities.evaluated {w v : Handover} (k : BesideQualities w v) : Evaluated w v := by
  rw [k]
  exact ⟨rfl, id, rfl, rfl⟩

theorem BesideQualities.trans {u v w : Handover} (a : BesideQualities w u) (b : BesideQualities u v) :
    BesideQualities w v := by
  rw [BesideQualities, b, a]

section
variable {x : LinkNo} {s : State} {w : Handover} (record : s.record x = some w)
include record

theorem evaluated_evaluate (c : HeadNo) : ((evaluate x c w s).resv x).primary = (s.resv x).primary ∧
    ∃ v, (evaluate x c w s).record x = some v ∧ Evaluated w v := by
  cases q : qualifier s x c with
  | none =>
    rw [evaluate_unqualified record q]
    exact ⟨rfl, _, State.record_setRecord_same .., ⟨rfl, id, rfl, rfl⟩⟩
  | some q' =>
    rw [evaluate_qualified record q]
    have counted : (s.setRecord x (some (w.counted q'))).record x = some (w.counted q') := State.record_setRecord_same ..
    have same : Evaluated w (w.counted q') := ⟨rfl, id, rfl, rfl⟩
    split
    · cases search : targetSearch (s.setRecord x (some (w.counted q'))) x q' with
      | none =>
        rw [startHandover_blocked counted search]
        exact ⟨rfl, _, State.record_setRecord_same .., ⟨rfl, id, rfl, rfl⟩⟩
      | some p =>
        obtain ⟨resv, dual⟩ := startHandover_found counted search
        rw [resv, dual]
        exact ⟨rfl, _, rfl, ⟨rfl, fun _ => rfl, rfl, rfl⟩⟩
    · exact ⟨rfl, _, counted, same⟩

/-- R53: what an evaluation at a slot close, or none, leaves. -/
theorem evaluated_evaluateLink (r : SlotRecord) : ((evaluateLink r x s).resv x).primary = (s.resv x).primary ∧
    ∃ v, (evaluateLink r x s).record x = some v ∧ Evaluated w v := by
  have stands : (s.resv x).primary = (s.resv x).primary ∧ ∃ v, s.record x = some v ∧ Evaluated w v :=
    ⟨rfl, w, record, .refl w⟩
  rw [evaluateLink, record]
  dsimp only
  split
  · exact stands
  · split
    · exact stands
    · unfold coverLink
      dsimp only
      split
      · exact stands
      · split
        · rw [restartCounting, updateRecord_eq record]
          exact ⟨rfl, _, State.record_setRecord_same .., ⟨rfl, id, rfl, rfl⟩⟩
        · split
          · split
            · exact evaluated_evaluate record _
            · exact stands
          · exact stands

/-- R53: a link in DUAL or with forced movement is not evaluated. -/
theorem evaluateLink_kept (k : w.state = .dual ∨ w.forced = true) (r : SlotRecord) : evaluateLink r x s = s := by
  rw [evaluateLink, record]
  dsimp only
  split
  · rfl
  · split
    · rfl
    · exact if_pos k

theorem record_measureHead (r : SlotRecord) (h : HeadNo) :
    ∃ v, (measureHead r h s).record x = some v ∧ BesideQualities w v := by
  unfold measureHead
  dsimp only
  split
  · rename_i y level _ _
    split
    · exact ⟨w, record, rfl⟩
    · by_cases own : y = x
      · subst own
        rw [updateRecord_eq record]
        refine ⟨_, State.record_setRecord_same .., ?_⟩
        rw [measure_eq]
        exact measured_frame ..
      · exact ⟨w, (State.record_setRecord_other s _ own).trans record, rfl⟩
  · exact ⟨w, record, rfl⟩

end

section
variable {o : OpenSlot} (current : o.stale = false) (early : o.time.slot.1 < 23) (h : HeadNo) (x : LinkNo) (s : State)
include current early

theorem closeRest_stands : LinksStand s (closeRest o h x s) ∧ (closeRest o h x s).cp = s.cp := by
  have covered : ∀ heads w u, LinksStand u (coverLink x heads w u) ∧ (coverLink x heads w u).cp = u.cp := by
    intro heads w u
    have stands : LinksStand u u ∧ u.cp = u.cp := ⟨.refl u, rfl⟩
    unfold coverLink
    dsimp only
    split
    · exact stands
    · split
      · exact ⟨stands_updateRecord x u _, rfl⟩
      · split
        · split
          · exact ⟨stands_evaluate x u _ w, (evaluating_evaluate x u _ w).port⟩
          · exact stands
        · exact stands
  have evaluated : ∀ u, LinksStand u (evaluateLink o.record x u) ∧ (evaluateLink o.record x u).cp = u.cp := by
    intro u
    have stands : LinksStand u u ∧ u.cp = u.cp := ⟨.refl u, rfl⟩
    unfold evaluateLink
    split
    · exact stands
    · split
      · exact stands
      · split
        · exact stands
        · exact covered _ _ u
  obtain ⟨stands, port⟩ := evaluated (measureHead o.record h s)
  rw [measureHead_frame] at stands port
  rw [closeRest, advanceSlot_current current early, measureHead_frame]
  exact ⟨⟨stands.links, stands.parts, stands.settings⟩, port⟩

variable {x s} {w : Handover} (record : s.record x = some w)
include record

/-- R53: what the rest leaves of the record, whether the link is evaluated or not. -/
theorem closeRest_evaluated : ((closeRest o h x s).resv x).primary = (s.resv x).primary ∧
    ∃ v, (closeRest o h x s).record x = some v ∧ Evaluated w v := by
  obtain ⟨v, measured, beside⟩ := record_measureHead record o.record h
  obtain ⟨primary, v', found, evaluated⟩ := evaluated_evaluateLink measured o.record
  rw [closeRest, advanceSlot_current current early]
  refine ⟨primary.trans ?_, v', found, beside.evaluated.trans evaluated⟩
  rw [measureHead_frame]
  rfl

/-- R53: a link in DUAL or with forced movement is measured only. -/
theorem closeRest_kept (k : w.state = .dual ∨ w.forced = true) : (closeRest o h x s).resv x = s.resv x ∧
    ∃ v, (closeRest o h x s).record x = some v ∧ (measureHead o.record h s).record x = some v ∧ BesideQualities w v := by
  obtain ⟨v, measured, beside⟩ := record_measureHead record o.record h
  have same : evaluateLink o.record x (measureHead o.record h s) = measureHead o.record h s := by
    refine evaluateLink_kept measured ?_ o.record
    rw [beside]
    exact k
  rw [closeRest, advanceSlot_current current early, same]
  refine ⟨?_, v, measured, measured, beside⟩
  show (measureHead o.record h s).resv x = s.resv x
  rw [measureHead_frame]
  rfl

end

end Sys2Proof.Machine
end

section
/-! SUPPORT. A slot close whose only cell is the link's last CRANE cell of the frame: what the settled exchange leaves of the
link, whatever the handover step, and the DUAL whose TARGET has started (R97, R110 to R112). -/

namespace Sys2Proof.Machine

/-- From `v` to `t` the link's exchange has been settled and the slot close ended: link `x` is left as `l`, with a change of
health seen as CRANE and recomputed in quay stop. -/
structure Finished (x : LinkNo) (l : Link) (v t : State) : Prop where
  link : t.link x = l
  settings : t.cov.settings = v.cov.settings
  raising : Raising v t
  shown : StopShown x v → StopShown x t
  seen : l.health ≠ (v.link x).health ∨ l.mode ≠ (v.link x).mode → CraneSeen t x
  restopped : l.health ≠ (v.link x).health → StopShown x t

section
variable {o : OpenSlot} (current : o.stale = false) (early : o.time.slot.1 < 23) (h : HeadNo) {τ : Time} {x : LinkNo}
  {e : Exchange} {l : Link} {v u : State}
include current early

theorem finished (outcome : Outcome x l v u) (lost : ∀ w, v.record x = some w → w.state = .candidate → w.forced = true →
    l.health = .lost → l.isLost) : Finished x l v (closeRest o h x (settleHandover τ x e u)) := by
  have handed := stands_settleHandover τ x u e (by rw [outcome.record, outcome.link]; exact lost)
  obtain ⟨stands, port⟩ := closeRest_stands current early h x (settleHandover τ x e u)
  have stands := handed.trans stands
  have raising : Raising u _ := (turn_settleHandover τ x u e).raising.trans (.of_cp port)
  refine ⟨(stands.link x).trans outcome.link, stands.settings.trans ?_, outcome.raising.trans raising,
    fun k => stands.shown (outcome.shown k), fun k => raising.craneSeen (outcome.seen k),
    fun k => stands.shown (outcome.restopped k)⟩
  rw [outcome.frame]

/-! ## The DUAL whose TARGET has started (R110, R112) -/

variable {w : Handover} (record : u.record x = some w) (dual : w.state = .dual) (begun : e.targetStarted = true)
include record dual begun

/-- R110: a settlement that does not complete the handover raises the dual count; R112: the eighth abandons it. -/
theorem dual_settles : ∃ v, (closeRest o h x (settleHandover τ x e u)).record x = some v ∧ v.completed = w.completed ∧
    (w.dual < 7 → (closeRest o h x (settleHandover τ x e u)).resv x = u.resv x ∧ v.state = .dual ∧
      v.dual = w.dual + 1) ∧
    (7 ≤ w.dual → v.abandoned = bump w.abandoned ∧ CraneSeen (closeRest o h x (settleHandover τ x e u)) x) := by
  have step : settleHandover τ x e u = stepDual τ x w u := by
    rw [settleHandover, record]
    dsimp only
    rw [dual]
    exact if_pos begun
  rw [step]
  by_cases few : w.dual < 7
  · have counted : stepDual τ x w u = u.setRecord x (some { w with dual := w.dual + 1 }) := by
      rw [stepDual, if_neg (by omega), updateRecord_eq record]
    rw [counted]
    obtain ⟨resv, v, found, -, beside⟩ := closeRest_kept current early h
      (State.record_setRecord_same u x (some { w with dual := w.dual + 1 })) (.inl dual)
    refine ⟨v, found, ?_, fun _ => ⟨resv, ?_, ?_⟩, fun many => absurd few (Nat.not_lt.mpr many)⟩
    · rw [beside]
    · rw [beside]; exact dual
    · rw [beside]
  · have abandoned : stepDual τ x w u = dropTarget τ x (u.setRecord x (some { w with dual := 8 })) := by
      rw [stepDual, if_pos (by omega), abandonHandover, updateRecord_eq record]
    rw [abandoned]
    obtain ⟨d, dropped, beside⟩ := record_dropTarget τ (State.record_setRecord_same u x (some { w with dual := 8 }))
    obtain ⟨-, v, found, evaluated⟩ := closeRest_evaluated current early h dropped
    have port := (closeRest_stands current early h x (dropTarget τ x (u.setRecord x (some { w with dual := 8 })))).2
    refine ⟨v, found, ?_, fun k => absurd k few, fun _ => ⟨?_, ?_⟩⟩
    · rw [evaluated.completed, Handover.dropped, beside]
    · rw [evaluated.abandoned, Handover.dropped, beside]
    · exact (Raising.of_cp port).craneSeen (craneSeen_raiseCrane ..)

end

/-! ## The completion of a handover (R111) -/

section
variable (t : Time) {x : LinkNo} {s : State} {w : Handover} (record : s.record x = some w)
include record

theorem record_releasePrimary : ∃ v, (releasePrimary t x s).record x = some v ∧ BesideQualities w v := by
  rw [releasePrimary_eq]
  split
  · exact ⟨w, record, rfl⟩
  · refine record_testDrain t _ ?_
    rw [quietCells_frame]
    exact record

omit record in
theorem resv_releasePrimary : (releasePrimary t x s).resv x = { s.resv x with primary := none } := by
  rw [releasePrimary_eq]
  split
  · rename_i none
    rw [← none]
  · rw [released_resv, if_pos rfl]

/-- R111: the handover completes onto its target. -/
theorem completeHandover_spec {n : HeadNo} (target : targetHead s x = some n) :
    (completeHandover t x s).resv x = ⟨(s.resv x).target, none⟩ ∧ CraneSeen (completeHandover t x s) x ∧
      ∃ v, (completeHandover t x s).record x = some v ∧ v.state = .settled ∧ v.centre = some n ∧ v.forced = false ∧
        v.completed = bump w.completed ∧ v.abandoned = w.abandoned := by
  obtain ⟨v, released, beside⟩ := record_releasePrimary t record
  have promoted : (promote x (releasePrimary t x s)).record x = some v := released
  unfold completeHandover
  rw [target]
  dsimp only
  rw [updateRecord_eq promoted]
  refine ⟨?_, craneSeen_raiseCrane .., ?_⟩
  · rw [raiseCrane_port]
    refine (get_put_same ..).trans ?_
    rw [resv_releasePrimary]
  · rw [raiseCrane_port]
    refine ⟨_, State.record_setRecord_same .., rfl, rfl, rfl, ?_, ?_⟩
    · rw [beside]
    · rw [beside]; rfl

end

/-! ## The two ways to settle -/

section
variable {s : State} {o : OpenSlot} {h : HeadNo} {x : LinkNo} {role : Role} (crane : LastCraneCell s o h x role)
include crane

theorem LastCraneCell.lastTurn (opened : (s.link x).mode ≠ .closed) : LastTurn o.record h x role (slotEnded s) where
  current := crane.only.current.1
  own q := by
    by_cases same : q = role
    · rw [if_pos same, same]
      exact crane.only.toOnlyEntry.craneHeads_own crane.cell
    · rw [if_neg same]
      exact crane.only.toOnlyEntry.craneHeads_none (by rw [crane.cell]; rintro ⟨⟩; exact same rfl)
  opened := opened
  fresh := crane.fresh.1
  settled := crane.fresh.2
  cells g sl q cell := by
    have last := crane.last g sl q cell
    rw [crane.only.current.2] at last
    exact last
  started := crane.started
  idle := rfl

theorem LastCraneCell.closes : closeSlot s = closeRest o h x (closeExchange o.record x (slotEnded s)) :=
  closeSlot_crane crane.only.toOnlyEntry crane.cell

theorem LastCraneCell.ret : (o.record.entries.get h).ret = some (match (o.entries.get h).ret with
    | some r => (r, .head)
    | none => (⟨.nothing, 0#8, []⟩, .deadline)) := by
  rw [record_entry]
  exact close_awaited crane.cell crane.only.awaited.1 crane.only.awaited.2

theorem LastCraneCell.ret_decoded {level : Byte} {bytes : List Byte}
    (k : (o.entries.get h).ret = some ⟨.decoded, level, bytes⟩) :
    (o.record.entries.get h).ret = some (⟨.decoded, level, bytes⟩, .head) := by
  rw [crane.ret, k]

/-- R94: the failed cell is judged so. -/
theorem LastCraneCell.judge_failed {kind : CellResult} (k : Failed s o h x kind) :
    judge o.record (slotEnded s) x h (o.record.entries.get h) = .inl kind := by
  cases kind with
  | noReply =>
    refine judge_noReply fun level bytes ret => ?_
    rw [crane.ret] at ret
    cases own : (o.entries.get h).ret with
    | none => rw [own] at ret; cases ret
    | some r =>
      rw [own] at ret
      cases ret
      exact k level bytes own
  | badCheck =>
    obtain ⟨level, bytes, ret, bad⟩ := k
    exact judge_badCheck (crane.ret_decoded ret) bad
  | wrongTerminal =>
    obtain ⟨level, bytes, up, ret, valid, other⟩ := k
    exact judge_wrongTerminal (crane.ret_decoded ret) valid other
  | echoMismatch =>
    obtain ⟨level, bytes, up, ret, valid, own, other⟩ := k
    exact judge_echoMismatch (crane.ret_decoded ret) valid crane.only.current.1 own other
  | success => exact k.elim

theorem LastCraneCell.judge_heard {up : UpBurst} (k : Heard s o h x up) :
    judge o.record (slotEnded s) x h (o.record.entries.get h) = .inr up := by
  obtain ⟨⟨level, bytes, ret, valid⟩, own, sent, echoes⟩ := k
  exact judge_success (crane.ret_decoded ret) valid crane.only.current.1 own sent echoes

/-- The slot close settles exchange `e` of link `x` with result `kind` in state `v` (R97). -/
structure Settles (s : State) (o : OpenSlot) (h : HeadNo) (x : LinkNo) (e : Exchange) (kind : CellResult) (v : State) :
    Prop where
  closes : closeSlot s = closeRest o h x (settleHandover o.time x e (outcomeTaken o.time x e kind v))
  best : e.best = some kind
  begun : e.targetStarted = (s.exch x).targetStarted
  pattern : e.pattern = (s.exch x).pattern

/-- R97: a failure settles with the link as it was. -/
theorem LastCraneCell.settles_failed (opened : (s.link x).mode ≠ .closed) {kind : CellResult}
    (k : Failed s o h x kind) (none : (s.exch x).best = none) : ∃ e v, Settles s o h x e kind v ∧ v.link x = s.link x ∧
      v.record x = s.record x ∧ v.resv x = s.resv x ∧ v.cov.settings = s.cov.settings ∧ v.freeUsed = s.freeUsed := by
  have closes := crane.closes
  rw [closeExchange_failed (crane.lastTurn opened) none (crane.judge_failed k)] at closes
  exact ⟨_, _, ⟨closes, rfl, rfl, rfl⟩, rfl, rfl, rfl, rfl, rfl⟩

/-- The slot close behind the judgement of a success, before the status is taken. -/
def heardState (s : State) (x : LinkNo) (up : UpBurst) : State := (slotEnded s).setExch x ((s.exch x).heard up)

/-- From `u` to `v` a handover has been completed, or not (R111). -/
structure Behind (u v : State) : Prop where
  stands : LinksStand u v
  raising : Raising u v
  free : v.freeUsed = u.freeUsed

omit crane in
theorem freeUsed_completeHandover (t : Time) (x : LinkNo) (s : State) :
    (completeHandover t x s).freeUsed = s.freeUsed := by
  have released : (releasePrimary t x s).freeUsed = s.freeUsed := by
    rw [releasePrimary_eq]
    split
    · rfl
    · rw [released, testDrain_frame, quietCells_frame]
      rfl
  unfold completeHandover
  split
  · rfl
  · dsimp only
    rw [raiseCrane_port]
    exact released

/-- R95, R97, R111: a success settles with its status taken, and behind the handover that it completes. -/
theorem LastCraneCell.settles_heard (opened : (s.link x).mode ≠ .closed) {up : UpBurst} (k : Heard s o h x up) :
    ∃ v, Settles s o h x ((s.exch x).heard up) .success v ∧
      Behind (takeStatus o.time x up.status (heardState s x up)) v ∧
      (completes o.record s x role h = false → v.record x = s.record x ∧ v.resv x = s.resv x) ∧
      (completes o.record s x role h = true → v.record x = (completeHandover o.time x
          (takeStatus o.time x up.status (heardState s x up))).record x ∧
        v.resv x = (completeHandover o.time x (takeStatus o.time x up.status (heardState s x up))).resv x ∧
        v.cp = (completeHandover o.time x (takeStatus o.time x up.status (heardState s x up))).cp) := by
  have closes := crane.closes
  rw [closeExchange_heard (crane.lastTurn opened) (crane.judge_heard k)] at closes
  have taken := (statusTaken o.time x up.status (heardState s x up)).frame
  have same : completes o.record (slotEnded s) x role h = completes o.record s x role h := rfl
  have result : successTaken o.record x role h up (slotEnded s) = if completes o.record s x role h = true then
      completeHandover o.time x (takeStatus o.time x up.status (heardState s x up))
      else takeStatus o.time x up.status (heardState s x up) := rfl
  refine ⟨_, ⟨closes, rfl, rfl, rfl⟩, ?_, fun none => ?_, fun done => ?_⟩
  · rw [result]
    split
    · have stands := stands_completeHandover o.time x (takeStatus o.time x up.status (heardState s x up))
      exact ⟨⟨stands.links, stands.parts, stands.settings⟩, (turn_completeHandover ..).raising.trans (.of_cp rfl),
        freeUsed_completeHandover ..⟩
    · exact ⟨⟨rfl, rfl, rfl⟩, .of_cp rfl, rfl⟩
  · rw [result, none, if_neg (by decide), taken]
    exact ⟨rfl, rfl⟩
  · rw [result, if_pos done]
    exact ⟨rfl, rfl, rfl⟩

end

end Sys2Proof.Machine
end

section
/-! The outcome of an exchange of a link in STANDBY or SERVICE and in GOOD, WARNED or DEGRADED (R94 to R97, R101, R102, R110
to R112). -/

namespace Sys2Proof.Machine

theorem healthOf_lost {n : Nat} : healthOf n = .lost ↔ 255 ≤ n := by
  unfold healthOf
  split
  · simp; omega
  · split
    · simp; omega
    · split
      · simp; omega
      · simp; omega

theorem healthOf_scored {n : Nat} (k : n ≤ 254) : (healthOf n).scored := by
  unfold healthOf Health.scored
  rw [if_pos k]
  split
  · exact .inl rfl
  · split
    · exact .inr (.inl rfl)
    · exact .inr (.inr rfl)

/-- A count that has saturated at least once more stays so. -/
theorem bump_le_of_min_le {a b c : Nat} (counted : bump a ≤ b) (kept : min b 65535 ≤ c) : bump a ≤ c := by
  unfold bump at *
  omega

/-- A score that reads as LOST is the one a loss leaves (R102, R103). -/
theorem isLost_graded {l : Link} {n : Nat} (untested : l.mode ≠ .test) (capped : n ≤ 255)
    (lost : (l.graded n).health = .lost) : (l.graded n).isLost := by
  obtain rfl : n = 255 := Nat.le_antisymm capped (healthOf_lost.mp lost)
  exact ⟨rfl, untested⟩

theorem nextScore_capped {n : Nat} (low : n ≤ 254) (success : Bool) : nextScore n success ≤ 255 := by
  unfold nextScore
  split <;> omega

theorem Health.ne_lost {h : Health} (k : h.scored) : h ≠ .lost := by
  rcases k with e | e | e <;> rw [e] <;> decide

/-- What the settlement of a success finds of the link, its status taken (R95). -/
theorem Behind.found {s u v : State} {t : Time} {x : LinkNo} {up : UpBurst} (behind : Behind u v)
    (taken : StatusTaken t x up.status (heardState s x up) u) : (v.link x).mode = (s.link x).mode ∧
      (v.link x).health = (s.link x).health ∧ (v.link x).score = (s.link x).score := by
  have link := (behind.stands.link x).trans taken.link
  rw [link]
  exact ⟨rfl, rfl, rfl⟩

section
variable {s : State} {o : OpenSlot} {h : HeadNo} {x : LinkNo} {role : Role} (crane : OneCraneCell s o h x role)
  (low : (s.link x).score ≤ 254)
include crane

theorem OneCraneCell.opened : (s.link x).mode ≠ .closed := by
  rcases crane.mode with e | e <;> rw [e] <;> decide

theorem OneCraneCell.untested : (s.link x).mode ≠ .test := by
  rcases crane.mode with e | e <;> rw [e] <;> decide

theorem OneCraneCell.event : exec .slotClose s = .next (closeSlot s) := whileRunning_running crane.only.running

include low

/-! ## What every settlement leaves -/

/-- R97, R101, R102: the settled exchange of the link, from the state in which it is settled. -/
theorem OneCraneCell.finished {e : Exchange} {kind : CellResult} {v : State} (settles : Settles s o h x e kind v)
    (mode : (v.link x).mode = (s.link x).mode) (health : (v.link x).health = (s.link x).health)
    (score : (v.link x).score = (s.link x).score) :
    Finished x (((v.link x).told kind).graded (nextScore (s.link x).score (kind == .success))) v (closeSlot s) := by
  have untested : (v.link x).mode ≠ .test := by rw [mode]; exact crane.untested
  have outcome := outcomeTaken_scored (t := o.time) (e := e) (kind := kind) (s := v) untested
    (by rw [health]; exact crane.health)
  rw [score] at outcome
  have done := Machine.finished crane.only.current.1 crane.only.slot.2 h (τ := o.time) (e := e) outcome
    fun w _ _ _ lost => isLost_graded untested (nextScore_capped low _) lost
  rw [← settles.closes] at done
  exact done

omit low in
/-- R110, R112: a settlement in a DUAL whose TARGET has started, which does not complete the handover. -/
theorem OneCraneCell.dual_counts {e : Exchange} {kind : CellResult} {v : State} (settles : Settles s o h x e kind v)
    (mode : (v.link x).mode = (s.link x).mode) (health : (v.link x).health = (s.link x).health) {w : Handover} (record : v.record x = some w)
    (resv : v.resv x = s.resv x) (dual : w.state = .dual) (begun : (s.exch x).targetStarted = true) :
    ∃ u, (closeSlot s).record x = some u ∧ u.completed = w.completed ∧
      (w.dual < 7 → (closeSlot s).resv x = s.resv x ∧ u.state = .dual ∧ u.dual = w.dual + 1) ∧
      (7 ≤ w.dual → u.abandoned = bump w.abandoned ∧ CraneSeen (closeSlot s) x) := by
  have outcome := outcomeTaken_scored (t := o.time) (e := e) (kind := kind) (s := v) (by rw [mode]; exact crane.untested)
    (by rw [health]; exact crane.health)
  have same : (outcomeTaken o.time x e kind v).resv x = s.resv x := by
    rw [outcome.frame]
    exact resv
  have counts := dual_settles crane.only.current.1 crane.only.slot.2 h (τ := o.time)
    (outcome.record.trans record) dual (settles.begun.trans begun)
  rw [← settles.closes, same] at counts
  exact counts

/-! ## A failure -/

/-- R97, R102: a failure adds 8 to the score and is counted by its kind. -/
theorem OneCraneCell.failure {kind : CellResult} {n : Nat} (failed : Failed s o h x kind) (none : (s.exch x).best = none)
    (next : n = min 255 ((s.link x).score + 8)) :
    (closeSlot s).link x = ((s.link x).told kind).graded n ∧
      (healthOf n ≠ (s.link x).health → CraneSeen (closeSlot s) x) ∧
      (n = 255 → (closeSlot s).cle.contributions.getLsbD x.1 =
        (showsEStop (s.link x) || s.cov.settings.stopOnLost)) ∧
      ∀ w, s.record x = some w → w.state = .dual → (s.exch x).targetStarted = true →
        ∃ u, (closeSlot s).record x = some u ∧ u.completed = w.completed ∧
          (w.dual < 7 → (closeSlot s).resv x = s.resv x ∧ u.state = .dual ∧ u.dual = w.dual + 1) ∧
          (7 ≤ w.dual → u.abandoned = bump w.abandoned ∧ CraneSeen (closeSlot s) x) := by
  have failure : (kind == .success) = false := by
    cases kind with
    | success => exact failed.elim
    | _ => rfl
  obtain ⟨e, v, settles, link, record, resv, settings, -⟩ := crane.settles_failed crane.opened failed none
  have done := crane.finished low settles (by rw [link]) (by rw [link]) (by rw [link])
  rw [failure, link, show nextScore (s.link x).score false = n from next.symm] at done
  refine ⟨done.link, fun changed => done.seen (.inl ?_), fun lost => ?_, fun w found dual begun => ?_⟩
  · rw [link]
    exact changed
  · have health : (((s.link x).told kind).graded n).health = .lost := by
      rw [lost]
      rfl
    have shown := done.restopped (by rw [health, link]; exact (Health.ne_lost crane.health).symm)
    rw [StopShown, contributes_link done.link, health, done.settings, settings] at shown
    rw [shown]
    have opened : (((s.link x).told kind).graded n).mode ≠ .closed := crane.opened
    rw [bne_iff_ne.mpr opened]
    rfl
  · exact crane.dual_counts settles (by rw [link]) (by rw [link]) (record.trans found) resv dual begun

/-! ## A success -/

/-- R95, R97, R102: a success takes 1 from the score, and the link's part in quay stop is its e-stop. -/
theorem OneCraneCell.success {up : UpBurst} {u v : State} (taken : StatusTaken o.time x up.status (heardState s x up) u)
    (behind : Behind u v) (settles : Settles s o h x ((s.exch x).heard up) .success v) :
    Raising u (closeSlot s) ∧
      (closeSlot s).link x = ((u.link x).told .success).graded ((s.link x).score - 1) ∧
      (closeSlot s).cle.contributions.getLsbD x.1 = up.status.eStop ∧
      (healthOf ((s.link x).score - 1) ≠ (s.link x).health → CraneSeen (closeSlot s) x) := by
  obtain ⟨mode, health, score⟩ := behind.found taken
  have done := crane.finished low settles mode health score
  rw [behind.stands.link x, show nextScore (s.link x).score (CellResult.success == .success) = (s.link x).score - 1 from rfl]
    at done
  have own : (u.link x).latest = some up.status ∧ (u.link x).mode ≠ .closed := by
    rw [taken.link]
    exact ⟨rfl, crane.opened⟩
  refine ⟨behind.raising.trans done.raising, done.link, ?_, fun changed => done.seen (.inl ?_)⟩
  · have shown := done.shown (behind.stands.shown taken.shown)
    have sound : (((u.link x).told .success).graded ((s.link x).score - 1)).health ≠ .lost :=
      Health.ne_lost (healthOf_scored (by omega))
    have opened : (((u.link x).told .success).graded ((s.link x).score - 1)).mode ≠ .closed := own.2
    have stop : showsEStop (((u.link x).told .success).graded ((s.link x).score - 1)) = up.status.eStop := by
      rw [showsEStop, show (((u.link x).told .success).graded _).latest = some up.status from own.1]
    rw [StopShown, contributes_link done.link, stop, bne_iff_ne.mpr opened, beq_eq_false_iff_ne.mpr sound] at shown
    rw [shown]
    simp
  · rw [health]
    exact changed

omit low in
/-- R111: the TARGET cell of a DUAL that has started completes the handover. -/
theorem OneCraneCell.success_completes {up : UpBurst} {u v : State} {w : Handover}
    (taken : StatusTaken o.time x up.status (heardState s x up) u)
    (settles : Settles s o h x ((s.exch x).heard up) .success v) (behind : Behind u v)
    (completed : v.record x = (completeHandover o.time x u).record x ∧
      v.resv x = (completeHandover o.time x u).resv x ∧ v.cp = (completeHandover o.time x u).cp)
    (record : s.record x = some w) (here : targetHead s x = some h) :
    ((closeSlot s).resv x).primary = (s.resv x).target ∧ CraneSeen (closeSlot s) x ∧
      ∃ d, (closeSlot s).record x = some d ∧ d.centre = some h ∧ d.forced = false ∧ d.completed = bump w.completed ∧
        d.abandoned = w.abandoned := by
  obtain ⟨mode, health, -⟩ := behind.found taken
  have outcome := outcomeTaken_scored (t := o.time) (e := (s.exch x).heard up) (kind := .success) (s := v)
    (by rw [mode]; exact crane.untested) (by rw [health]; exact crane.health)
  have own : u.record x = some w ∧ u.resv x = s.resv x := by
    rw [taken.frame]
    exact ⟨record, rfl⟩
  obtain ⟨resv, seen, d, found, settled, centre, unforced, count, abandoned⟩ :=
    completeHandover_spec o.time own.1 (n := h) (by rw [targetHead, own.2]; exact here)
  have after : (outcomeTaken o.time x ((s.exch x).heard up) .success v).record x = some d := by
    rw [outcome.record, completed.1, found]
  have idle : settleHandover o.time x ((s.exch x).heard up) (outcomeTaken o.time x ((s.exch x).heard up) .success v) =
      outcomeTaken o.time x ((s.exch x).heard up) .success v := by
    rw [settleHandover, after]
    dsimp only
    rw [settled]
  have closes := settles.closes
  rw [idle] at closes
  obtain ⟨primary, d', found', evaluated⟩ := closeRest_evaluated crane.only.current.1 crane.only.slot.2 h after
  have port := (closeRest_stands crane.only.current.1 crane.only.slot.2 h x
    (outcomeTaken o.time x ((s.exch x).heard up) .success v)).2
  rw [← closes] at primary found' port
  refine ⟨?_, ?_, d', found', evaluated.centre.trans centre, evaluated.forced unforced, evaluated.completed.trans count,
    evaluated.abandoned.trans abandoned⟩
  · rw [primary, outcome.frame]
    show (v.resv x).primary = _
    rw [completed.2.1, resv, own.2]
  · have behind : Raising (completeHandover o.time x u) v := .of_cp completed.2.2
    exact (Raising.of_cp port).craneSeen (outcome.raising.craneSeen (behind.craneSeen seen))

end

end Sys2Proof.Machine

open Sys2Proof Sys2Proof.Machine

/-- Settles O11, by the judgement of the cell and the settlement of its result. -/
theorem exchangeOutcomesAreCounted : Obligations.ExchangeOutcomesAreCounted := by
  refine fun s o h x role crane low => ⟨fun up heard => ⟨_, crane.event, ?_⟩, fun kind n failed none next =>
    ⟨_, crane.event, ?_⟩⟩
  · obtain ⟨v, settles, behind, kept, completed⟩ := crane.settles_heard crane.opened heard
    have taken := statusTaken o.time x up.status (heardState s x up)
    generalize takeStatus o.time x up.status (heardState s x up) = u at behind taken completed
    obtain ⟨raising, link, stop, seen⟩ := crane.success low taken behind settles
    refine ⟨⟨(u.link x).pendingAlarms, (u.link x).alarmDrops, ?_, taken.old, fun new some => ⟨taken.crowded new some,
      fun few => ?_⟩⟩, stop, seen, fun w record dual begun => ⟨fun target here => ?_, fun primary => ?_⟩⟩
    · rw [link, taken.link, Link.graded, if_neg (by omega)]
      rfl
    · obtain ⟨drops, room, full⟩ := taken.offered new some few
      refine ⟨drops, fun free => ?_, fun was => ?_⟩
      · obtain ⟨pending, joined⟩ := room free
        refine ⟨pending, raising.notices _ ?_⟩
        rw [← crane.only.current.2]
        exact joined
      · obtain ⟨pending, notices, count, silent⟩ := full was
        refine ⟨pending, (raising.full (taken.full was)).trans notices, ?_, fun off => ?_⟩
        · exact bump_le_of_min_le count raising.drops
        · exact (raising.silent (taken.enables.trans off)).2.trans (silent off)
    · subst target
      refine crane.success_completes taken settles behind (completed ?_) record here
      rw [completes, frameExch_current x s crane.only.current.1, record, begun, here]
      simp [dual]
    · subst primary
      obtain ⟨record', resv'⟩ := kept rfl
      obtain ⟨mode, health, -⟩ := behind.found taken
      exact crane.dual_counts settles mode health (record'.trans record) resv' dual begun
  · obtain ⟨link, seen, stop, dual⟩ := crane.failure low failed none next
    refine ⟨?_, seen, stop, dual⟩
    have failure : decide (kind ≠ .success) = true := by
      cases kind with
      | success => exact failed.elim
      | _ => rfl
    rw [link, Link.graded, Link.told, failure]
    rfl
end

section
/-! SUPPORT. What every settled exchange leaves, whatever the mode and health of its link (R94 to R104). -/

namespace Sys2Proof.Machine

/-- From `s` to `u` the Crane Link Engine and the Control Port have acted alone, and link `x` keeps period and phase. -/
structure Exchanging (x : LinkNo) (s u : State) : Prop where
  frame : u = { s with freeUsed := u.freeUsed, cle := u.cle, cp := u.cp }
  period : (u.link x).period = (s.link x).period
  phase : (u.link x).phase = (s.link x).phase

/-- So they have, and link `x` keeps its alarm counts. -/
structure Tuned (x : LinkNo) (s u : State) : Prop extends Exchanging x s u where
  pending : (u.link x).pendingAlarms = (s.link x).pendingAlarms
  drops : (u.link x).alarmDrops = (s.link x).alarmDrops

theorem Exchanging.trans {x : LinkNo} {s u v : State} (a : Exchanging x s u) (b : Exchanging x u v) :
    Exchanging x s v where
  frame := by rw [b.frame, a.frame]
  period := b.period.trans a.period
  phase := b.phase.trans a.phase

namespace Tuned

variable {x : LinkNo} {s u v : State}

theorem refl (x : LinkNo) (s : State) : Tuned x s s := ⟨⟨rfl, rfl, rfl⟩, rfl, rfl⟩

theorem trans (a : Tuned x s u) (b : Tuned x u v) : Tuned x s v :=
  ⟨a.toExchanging.trans b.toExchanging, b.pending.trans a.pending, b.drops.trans a.drops⟩

/-- What leaves the links' records. -/
theorem of_links (frame : u = { s with freeUsed := u.freeUsed, cle := u.cle, cp := u.cp })
    (links : u.cle.links = s.cle.links) : Tuned x s u := by
  have link : u.link x = s.link x := congrArg (·.get x) links
  exact ⟨⟨frame, by rw [link], by rw [link]⟩, by rw [link], by rw [link]⟩

end Tuned

section
variable (t : Time) (x : LinkNo) (s : State)

theorem tuned_updateLink (f : Link → Link) (period : (f (s.link x)).period = (s.link x).period := by rfl)
    (phase : (f (s.link x)).phase = (s.link x).phase := by rfl)
    (pending : (f (s.link x)).pendingAlarms = (s.link x).pendingAlarms := by rfl)
    (drops : (f (s.link x)).alarmDrops = (s.link x).alarmDrops := by rfl) : Tuned x s (updateLink x f s) := by
  have link : (updateLink x f s).link x = f (s.link x) := State.link_setLink_same ..
  exact ⟨⟨rfl, by rw [link, period], by rw [link, phase]⟩, by rw [link, pending], by rw [link, drops]⟩

theorem tuned_raiseCrane : Tuned x s (raiseCrane t x s) :=
  .of_links (by rw [raiseCrane_port]) (by rw [raiseCrane_port])

theorem tuned_setHealth (h : Health) : Tuned x s (setHealth t x h s) := by
  unfold setHealth
  split
  · exact .refl x s
  · refine ((tuned_updateLink x s fun l => { l with health := h }).trans (tuned_raiseCrane t x _)).trans ?_
    exact .of_links (by rw [recomputeStop_frame]) (by rw [recomputeStop_frame])

theorem tuned_abortTest : Tuned x s (abortTest t x s) := by
  unfold abortTest
  split
  · exact (tuned_updateLink x s _).trans (tuned_raiseCrane t x _)
  · exact .refl x s

theorem tuned_enterLost : Tuned x s (enterLost t x s) :=
  ((tuned_updateLink x s _).trans (tuned_setHealth t x _ .lost)).trans (tuned_abortTest t x _)

theorem tuned_countTestExchange (errors : Nat) : Tuned x s (countTestExchange t x errors s) := by
  unfold countTestExchange
  split
  · dsimp only
    split
    · exact (tuned_updateLink x s _).trans (tuned_raiseCrane t x _)
    · exact tuned_updateLink x s _
  · exact .refl x s

theorem tuned_settleTest (e : Exchange) : Tuned x s (settleTest t x e s) := by
  unfold settleTest
  split
  · split
    · exact tuned_countTestExchange t x s _
    · exact Tuned.trans (u := { s with freeUsed := s.freeUsed + 1 }) (.of_links rfl rfl) (tuned_countTestExchange t x _ _)
  · exact tuned_countTestExchange t x s 64
  · exact .refl x s

theorem tuned_stepRecovery (success : Bool) : Tuned x s (stepRecovery t x success s) := by
  unfold stepRecovery
  split
  · dsimp only
    split
    · exact (tuned_updateLink x s _).trans (tuned_setHealth t x _ .good)
    · exact tuned_updateLink x s _
  · exact tuned_enterLost t x s

theorem tuned_scoreOutcome (success : Bool) : Tuned x s (scoreOutcome t x success s) := by
  unfold scoreOutcome
  split
  · exact .refl x s
  · exact tuned_stepRecovery t x s success
  · dsimp only
    split
    · exact tuned_enterLost t x s
    · exact (tuned_updateLink x s _).trans (tuned_setHealth t x _ _)

/-- R97, R99 to R104: the outcome of a settled exchange. -/
theorem tuned_outcomeTaken (e : Exchange) (kind : CellResult) : Tuned x s (outcomeTaken t x e kind s) :=
  ((tuned_updateLink x s _).trans (tuned_settleTest t x _ e)).trans (tuned_scoreOutcome t x _ _)

end

end Sys2Proof.Machine
end

section
/-! SUPPORT. The outcome of an exchange of a LOST, a RECOVERING and a TEST link (R97, R99, R100, R103, R104). -/

namespace Sys2Proof.Machine

theorem testErrors_heard {e : Exchange} {up : UpBurst} {n : Nat} (first : e.firstUp = some up) :
    testErrors e n true = bitErrors (e.pattern.getD (Config.freePattern n)) up.pattern := by
  unfold testErrors
  rw [first]
  exact differingBits_eq ..

/-- The bits in which the pattern returned differs from the frame's, all 64 where none returned (R99, log entry 2). -/
def bitsWrong (s : State) (x : LinkNo) (returned : Option (BitVec 64)) : Nat := match returned with
  | some q => bitErrors ((s.exch x).pattern.getD (Config.freePattern s.freeUsed)) q
  | none => 64

/-- The exchange that the slot close settles ends in `kind` and leaves the latest status and the pattern returned; the
settlement starts from `v` (R94, R95, R97). -/
structure Ending (s : State) (o : OpenSlot) (h : HeadNo) (x : LinkNo) (kind : CellResult) (latest : Option CraneStatus)
    (returned : Option (BitVec 64)) (e : Exchange) (v : State) : Prop where
  settles : Settles s o h x e kind v
  link : v.link x = { s.link x with
    latest := latest, pendingAlarms := (v.link x).pendingAlarms, alarmDrops := (v.link x).alarmDrops }
  settings : v.cov.settings = s.cov.settings
  errors : (s.exch x).firstUp = none → testErrors e v.freeUsed (kind == .success) = bitsWrong s x returned
  record : v.record x = s.record x ∨ ∃ w, v.record x = some w ∧ w.state = .settled

section
variable {s : State} {o : OpenSlot} {h : HeadNo} {x : LinkNo} {role : Role} {kind : CellResult}
  {latest : Option CraneStatus} {returned : Option (BitVec 64)}

theorem LastCraneCell.ending (crane : LastCraneCell s o h x role) (opened : (s.link x).mode ≠ .closed)
    (ends : EndsIn s o h x kind latest returned) : ∃ e v, Ending s o h x kind latest returned e v := by
  rcases ends with ⟨up, heard, rfl, rfl, rfl⟩ | ⟨failed, none, rfl, rfl⟩
  · obtain ⟨v, settles, behind, kept, completed⟩ := crane.settles_heard opened heard
    have taken := statusTaken o.time x up.status (heardState s x up)
    generalize takeStatus o.time x up.status (heardState s x up) = u at behind taken completed
    have link := behind.stands.link x
    refine ⟨_, v, settles, ?_, ?_, fun fresh => ?_, ?_⟩
    · rw [link]
      exact taken.link
    · rw [behind.stands.settings, taken.frame]
      rfl
    · have first : ((s.exch x).heard up).firstUp = some up := by
        simp [Exchange.heard, fresh]
      have free : v.freeUsed = s.freeUsed := by
        rw [behind.free, taken.frame]
        rfl
      rw [free]
      exact testErrors_heard first
    · cases done : completes o.record s x role h with
      | false => exact .inl (kept done).1
      | true =>
        have own : u.record x = s.record x ∧ u.resv x = s.resv x := by
          rw [taken.frame]
          exact ⟨rfl, rfl⟩
        have parts := done
        simp only [completes, Bool.and_eq_true, beq_iff_eq] at parts
        obtain ⟨⟨-, target⟩, dual⟩ := parts
        cases record : s.record x with
        | none => rw [record] at dual; cases dual
        | some w =>
          obtain ⟨-, -, d, found, settled, -⟩ := completeHandover_spec o.time (own.1.trans record) (n := h)
            (by rw [targetHead, own.2]; exact target)
          refine .inr ⟨d, ?_, settled⟩
          rw [← found]
          exact (completed done).1
  · obtain ⟨e, v, settles, link, record, -, settings, free⟩ := crane.settles_failed opened failed none
    refine ⟨e, v, settles, ?_, settings, fun _ => ?_, .inl record⟩
    · rw [link]
    · have failure : (kind == .success) = false := by
        cases kind with
        | success => exact failed.elim
        | _ => rfl
      rw [failure]
      rfl

end

section
variable {s : State} {o : OpenSlot} {h : HeadNo} {x : LinkNo} {role : Role} {kind : CellResult}
  {latest : Option CraneStatus} {returned : Option (BitVec 64)} {e : Exchange} {v : State}
  (crane : LastCraneCell s o h x role) (ending : Ending s o h x kind latest returned e v)
include crane ending

variable (unforced : ∀ w, s.record x = some w → w.state = .candidate → w.forced = false)
include unforced

omit crane in
/-- No forced attempt follows the outcome (R119). -/
theorem Ending.notForced {w : Handover} (found : v.record x = some w) (candidate : w.state = .candidate) :
    w.forced = false := by
  rcases ending.record with same | ⟨d, kept, settled⟩
  · exact unforced w (same ▸ found) candidate
  · rw [kept] at found
    cases found
    rw [settled] at candidate
    cases candidate

/-- The slot close leaves what the outcome does. -/
theorem Ending.finished {l : Link} (outcome : Outcome x l v (outcomeTaken o.time x e kind v)) :
    Finished x l v (closeSlot s) := by
  have done := Machine.finished crane.only.current.1 crane.only.slot.2 h (τ := o.time) (e := e) outcome
    fun w found candidate forced _ => by
      rw [ending.notForced unforced found candidate] at forced
      cases forced
  rw [← ending.settles.closes] at done
  exact done

/-- The alarm counts stand after the judgement, whatever the outcome. -/
theorem Ending.alarms : ((closeSlot s).link x).pendingAlarms = (v.link x).pendingAlarms ∧
    ((closeSlot s).link x).alarmDrops = (v.link x).alarmDrops := by
  have tuned := tuned_outcomeTaken o.time x v e kind
  have record : (outcomeTaken o.time x e kind v).record x = v.record x := by
    rw [tuned.frame]
    rfl
  have handed := stands_settleHandover o.time x (outcomeTaken o.time x e kind v) e fun w found candidate forced _ => by
    rw [ending.notForced unforced (record ▸ found) candidate] at forced
    cases forced
  have rest := (closeRest_stands crane.only.current.1 crane.only.slot.2 h x
    (settleHandover o.time x e (outcomeTaken o.time x e kind v))).1
  rw [← ending.settles.closes] at rest
  rw [(handed.trans rest).link x]
  exact ⟨tuned.pending, tuned.drops⟩

/-! ## The clauses by mode and health -/

/-- What the settlement leaves of a link, told the result, in LOST or RECOVERING outside TEST (R103, R104). -/
structure SettledUntested (s : State) (x : LinkNo) (kind : CellResult) (l : Link) (t : State) : Prop where
  lost : (s.link x).health = .lost → t.link x = l
  recovers : (s.link x).health = .recovering → kind = .success → (s.link x).recovery < 15 →
    t.link x = { l with recovery := (s.link x).recovery + 1 }
  recovered : (s.link x).health = .recovering → kind = .success → 15 ≤ (s.link x).recovery → CraneSeen t x ∧
    t.cle.contributions.getLsbD x.1 = showsEStop l ∧ t.link x = { l with
      health := .good, score := 0, recovery := 16
      mode := if (s.link x).mode = .service then .standby else (s.link x).mode }
  relapses : (s.link x).health = .recovering → kind ≠ .success → CraneSeen t x ∧
    t.cle.contributions.getLsbD x.1 = (showsEStop l || s.cov.settings.stopOnLost) ∧ t.link x = l.lost

theorem Ending.settledUntested (opened : (s.link x).mode ≠ .closed) (untested : (s.link x).mode ≠ .test) :
    SettledUntested s x kind ((v.link x).told kind) (closeSlot s) := by
  obtain ⟨base, hbase⟩ : ∃ b, v.link x = b := ⟨_, rfl⟩
  have same : base.mode = (s.link x).mode ∧ base.health = (s.link x).health ∧ base.recovery = (s.link x).recovery := by
    rw [← hbase, ending.link]
    exact ⟨rfl, rfl, rfl⟩
  obtain ⟨mode, health, recovery⟩ := same
  have noTest : (v.link x).mode ≠ .test := by rw [hbase, mode]; exact untested
  refine ⟨fun lost => ?_, fun recovering success few => ?_, fun recovering success last => ?_,
    fun recovering failed => ?_⟩
  · exact (ending.finished crane unforced (outcomeTaken_lost noTest (by rw [hbase, health]; exact lost))).link
  · subst success
    have done := ending.finished crane unforced (outcomeTaken_recovers (t := o.time) (e := e) noTest
      (by rw [hbase, health]; exact recovering) (by rw [hbase, recovery]; exact few))
    rw [done.link, hbase, recovery]
  · subst success
    have done := ending.finished crane unforced (outcomeTaken_recovered (t := o.time) (e := e) noTest
      (by rw [hbase, health]; exact recovering) (by rw [hbase, recovery]; exact last))
    rw [hbase] at done
    have shown := done.restopped (by rw [hbase, health, recovering]; exact nofun)
    have stillOpen : Link.mode { (base.told .success).sixteenth with health := .good } ≠ .closed := by
      show (if base.mode = .service then Mode.standby else base.mode) ≠ .closed
      split
      · decide
      · rw [mode]; exact opened
    rw [StopShown, contributes_link done.link, bne_iff_ne.mpr stillOpen, Bool.true_and] at shown
    refine ⟨done.seen (.inl (by rw [hbase, health, recovering]; exact nofun)), ?_, ?_⟩
    · rw [shown, hbase]
      exact Bool.or_false _
    · rw [done.link, hbase, ← mode]
      rfl
  · have done := ending.finished crane unforced (outcomeTaken_relapses (t := o.time) (e := e) noTest
      (by rw [hbase, health]; exact recovering) failed)
    rw [hbase] at done
    have shown := done.restopped (by rw [hbase, health, recovering]; exact nofun)
    have stillOpen : (base.told kind).lost.mode ≠ .closed := by
      show base.mode ≠ .closed
      rw [mode]
      exact opened
    rw [StopShown, contributes_link done.link, bne_iff_ne.mpr stillOpen, Bool.true_and, done.settings, ending.settings] at shown
    rw [hbase]
    exact ⟨done.seen (.inl (by rw [hbase, health, recovering]; exact nofun)), shown, done.link⟩

/-- R99, R100: what the settlement leaves of a link in TEST. -/
theorem Ending.settledTest {p : TestProgress} {n errors : Nat} (mode : (s.link x).mode = .test)
    (test : (s.link x).test = some p) (fresh : (s.exch x).firstUp = none) (fit : (s.link x).health.scored)
    (next : n = if kind = .success then (s.link x).score - 1 else min 255 ((s.link x).score + 8))
    (counted : errors = p.bitErrors + bitsWrong s x returned) :
    (p.target ≤ p.done + 1 → CraneSeen (closeSlot s) x ∧
      (closeSlot s).link x = (((v.link x).told kind).tested (p.done + 1) errors).graded n) ∧
    (p.done + 1 < p.target → n ≠ 255 → (closeSlot s).link x =
      Link.graded { (v.link x).told kind with test := some { p with done := p.done + 1, bitErrors := errors } } n) ∧
    (p.done + 1 < p.target → n = 255 → CraneSeen (closeSlot s) x ∧ (closeSlot s).link x =
      (Link.lost { (v.link x).told kind with test := some { p with done := p.done + 1, bitErrors := errors } }).aborted
        { p with done := p.done + 1, bitErrors := errors }) := by
  have same : (v.link x).mode = (s.link x).mode ∧ (v.link x).health = (s.link x).health ∧
      (v.link x).test = (s.link x).test ∧ (v.link x).score = (s.link x).score := by
    rw [ending.link]
    exact ⟨rfl, rfl, rfl, rfl⟩
  obtain ⟨vmode, vhealth, vtest, vscore⟩ := same
  have score : nextScore (v.link x).score (kind == .success) = n := by
    rw [vscore, next, nextScore]
    simp only [beq_iff_eq]
  rw [← ending.errors fresh] at counted
  have wasTest : (v.link x).mode = .test := vmode.trans mode
  have progress := vtest.trans test
  have health : (v.link x).health.scored := by rw [vhealth]; exact fit
  refine ⟨fun last => ?_, fun more alive => ?_, fun more lost => ?_⟩
  · have done := ending.finished crane unforced
      (outcomeTaken_tested (t := o.time) wasTest progress ending.settles.best health last)
    rw [score, ← counted] at done
    exact ⟨done.seen (.inr (by rw [wasTest]; exact nofun)), done.link⟩
  · have outcome := (outcomeTaken_testing (t := o.time) wasTest progress ending.settles.best health more rfl).1
      (by rw [score]; exact alive)
    rw [TestProgress.counted, ← counted, score] at outcome
    exact (ending.finished crane unforced outcome).link
  · have outcome := (outcomeTaken_testing (t := o.time) wasTest progress ending.settles.best health more rfl).2
      (by rw [score]; exact lost)
    rw [TestProgress.counted, ← counted] at outcome
    have done := ending.finished crane unforced outcome
    exact ⟨done.seen (.inr (by rw [wasTest]; exact nofun)), done.link⟩

end

end Sys2Proof.Machine

open Sys2Proof Sys2Proof.Machine

/-- The part of O12 on links without a forced attempt. -/
theorem Sys2Proof.Machine.otherExchange_settles {s : State} {o : OpenSlot} {h : HeadNo} {x : LinkNo} {role : Role}
    {kind : CellResult} {latest : Option CraneStatus} {returned : Option (BitVec 64)}
    (crane : LastCraneCell s o h x role) (ends : EndsIn s o h x kind latest returned)
    (opened : (s.link x).mode ≠ .closed)
    (unforced : ∀ w, s.record x = some w → w.state = .candidate → w.forced = false) :
    ∃ t l, exec .slotClose s = .next t ∧
      l = { s.link x with
        latest := latest, farEnd := decide (kind ≠ .success), outcomes := counted (s.link x).outcomes kind
        pendingAlarms := (t.link x).pendingAlarms, alarmDrops := (t.link x).alarmDrops } ∧
      ((s.link x).mode ≠ .test → SettledUntested s x kind l t) ∧
      ∀ p n errors, (s.link x).mode = .test → (s.link x).test = some p → (s.exch x).firstUp = none →
        (s.link x).health.scored →
        n = (if kind = .success then (s.link x).score - 1 else min 255 ((s.link x).score + 8)) →
        errors = p.bitErrors + bitsWrong s x returned →
        (p.target ≤ p.done + 1 → CraneSeen t x ∧ t.link x = (l.tested (p.done + 1) errors).graded n) ∧
        (p.done + 1 < p.target → n ≠ 255 → t.link x =
          Link.graded { l with test := some { p with done := p.done + 1, bitErrors := errors } } n) ∧
        (p.done + 1 < p.target → n = 255 → CraneSeen t x ∧ t.link x =
          (Link.lost { l with test := some { p with done := p.done + 1, bitErrors := errors } }).aborted
            { p with done := p.done + 1, bitErrors := errors }) := by
  obtain ⟨e, v, ending⟩ := crane.ending opened ends
  obtain ⟨pending, drops⟩ := ending.alarms crane unforced
  refine ⟨closeSlot s, (v.link x).told kind, whileRunning_running crane.only.running, ?_,
    ending.settledUntested crane unforced opened, fun p n errors mode test fresh fit next counted =>
      ending.settledTest crane unforced mode test fresh fit next counted⟩
  rw [pending, drops]
  have link := ending.link
  generalize v.link x = base at link
  conv_lhs => rw [link]
  rfl
end

section
/-! SUPPORT. The forced attempt of a link whose serving head drains (R116, R119): what its search over the valid ON
neighbours finds, and what it leaves. -/

namespace Sys2Proof.Machine

/-! ## The first admitted place and the first choice -/

/-- An order of choices: the higher score first, of equal scores the lower head number (R116). -/
def Ahead (a b : HeadNo × Int) : Prop := b.2 < a.2 ∨ b.2 = a.2 ∧ a.1 ≤ b.1

theorem Ahead.head_eq {a b : HeadNo × Int} (k : Ahead a b) (m : Ahead b a) : a.1 = b.1 := by
  unfold Ahead at k m
  rcases k with k | ⟨e, k⟩ <;> rcases m with m | ⟨f, m⟩
  · omega
  · omega
  · omega
  · exact le_antisymm k m

/-- Of sorted choices the search finds a place on the one that comes first among those that have one. -/
theorem findSome_ahead {search : HeadNo → Option Place} {p : Place} {a : HeadNo × Int} (found : search a.1 = some p)
    (l : List (HeadNo × Int)) (sorted : l.Pairwise Ahead) (mem : a ∈ l)
    (first : ∀ b ∈ l, search b.1 ≠ none → Ahead a b) : l.findSome? (fun b => search b.1) = some p := by
  induction l with
  | nil => cases mem
  | cons b rest ih =>
    obtain ⟨before, sorted⟩ := List.pairwise_cons.mp sorted
    rw [List.findSome?_cons]
    cases here : search b.1 with
    | none =>
      refine ih sorted ?_ fun c k => first c (List.mem_cons_of_mem b k)
      rcases List.mem_cons.mp mem with e | k
      · rw [← e, found] at here
        cases here
      · exact k
    | some q =>
      have same : a.1 = b.1 := by
        rcases List.mem_cons.mp mem with e | k
        · rw [e]
        · exact (first b (List.mem_cons_self ..) (by rw [here]; exact nofun)).head_eq (before a k)
      rw [← found, same, here]

/-- The first of sorted choices is the one ahead of all. -/
theorem head_ahead {a : HeadNo × Int} (l : List (HeadNo × Int)) (sorted : l.Pairwise Ahead) (mem : a ∈ l)
    (first : ∀ b ∈ l, Ahead a b) : l.head?.map (·.1) = some a.1 := by
  cases l with
  | nil => cases mem
  | cons b rest =>
    have same : a.1 = b.1 := by
      rcases List.mem_cons.mp mem with e | k
      · rw [e]
      · exact (first b (List.mem_cons_self ..)).head_eq ((List.pairwise_cons.mp sorted).1 a k)
    rw [same]
    rfl

section
variable {s : State} {x : LinkNo} {d : HeadNo} {w : Handover} (record : s.record x = some w) (centre : w.centre = some d)
include record centre

theorem ranked_iff {g : HeadNo} {e : Int} : (g, e) ∈ rankedNeighbours s x ↔ IsChoice s x d g e := by
  rw [rankedNeighbours_mem, record, Option.bind_some, centre]
  exact ⟨fun ⟨c, k, choice⟩ => Option.some.inj k ▸ choice, fun k => ⟨d, rfl, k⟩⟩

/-- R119: the attempt finds what the manual has the link find. -/
theorem firstAdmitted_chosen {p : Place} (chosen : Chosen s x d p) :
    firstAdmitted s x (rankedNeighbours s x) = some p := by
  obtain ⟨found, e, choice, first⟩ := chosen
  refine findSome_ahead (search := targetSearch s x) (a := (p.head, e)) (targetFound_iff.mp found) _
    (rankedNeighbours_sorted s x) ((ranked_iff record centre).mpr choice) fun b mem admits => ?_
  exact first b.1 b.2 ((ranked_iff record centre).mp mem) fun none => admits (noTarget_iff.mp none)

theorem firstAdmitted_none (bare : NoChoice s x d) : firstAdmitted s x (rankedNeighbours s x) = none := by
  rw [firstAdmitted, List.findSome?_eq_none_iff]
  exact fun b mem => noTarget_iff.mp (bare b.1 b.2 ((ranked_iff record centre).mp mem))

theorem ranked_first {g : HeadNo} (first : FirstChoice s x d g) : (rankedNeighbours s x).head?.map (·.1) = some g := by
  obtain ⟨e, choice, best⟩ := first
  exact head_ahead (a := (g, e)) _ (rankedNeighbours_sorted s x) ((ranked_iff record centre).mpr choice)
    fun b mem => best b.1 b.2 ((ranked_iff record centre).mp mem)

theorem ranked_empty (bare : ∀ g, ¬ FirstChoice s x d g) : (rankedNeighbours s x).head?.map (·.1) = none := by
  have sorted := rankedNeighbours_sorted s x
  cases ranked : rankedNeighbours s x with
  | nil => rfl
  | cons b rest =>
    rw [ranked] at sorted
    refine absurd ⟨b.2, (ranked_iff record centre).mp (by rw [ranked]; exact List.mem_cons_self ..), fun k f choice => ?_⟩
      (bare b.1)
    have mem := (ranked_iff record centre).mpr choice
    rw [ranked] at mem
    rcases List.mem_cons.mp mem with e | k'
    · rw [← e]
      exact .inr ⟨rfl, le_refl _⟩
    · exact (List.pairwise_cons.mp sorted).1 (k, f) k'

end

/-! ## What the attempt leaves (R119) -/

section
variable {u : State} {x : LinkNo} {w : Handover} (record : u.record x = some w)
include record

theorem attemptForced_found {p : Place} (found : firstAdmitted u x (rankedNeighbours u x) = some p) :
    (attemptForced x u).resv x = { u.resv x with target := some p } ∧ (attemptForced x u).record x =
      some { w with candidate := some p.head, state := .dual, dual := 0, forced := true } := by
  obtain ⟨resv, dual, -⟩ := enterDual_spec record p true
  unfold attemptForced
  dsimp only
  rw [found]
  dsimp only
  rw [updateRecord_eq dual]
  exact ⟨resv, State.record_setRecord_same ..⟩

theorem attemptForced_blocked (none : firstAdmitted u x (rankedNeighbours u x) = none) :
    attemptForced x u = u.setRecord x (some { w with
      candidate := (rankedNeighbours u x).head?.map (·.1), state := .candidate, forced := true
      blocked := bump w.blocked }) := by
  unfold attemptForced
  dsimp only
  rw [none]
  exact updateRecord_eq record _

end

/-- Ranked neighbours and searches read heads, reservations, the active plan, settings and records, and of the link its
period and phase. -/
theorem ranked_congr {s u : State} {x : LinkNo} (resv : u.fs.resv = s.fs.resv) (heads : u.hp.heads = s.hp.heads)
    (cov : u.cov = s.cov) : rankedNeighbours u x = rankedNeighbours s x := by
  have score : ∀ h, effectiveScore u x h = effectiveScore s x h := by
    intro h
    unfold effectiveScore scoreOf otherLinks linkReservations State.record State.resv
    rw [cov, resv]
  have near : ∀ h, neighbour u x h = neighbour s x h := by
    intro h
    unfold neighbour State.head
    simp only [heads, score]
  unfold rankedNeighbours State.record
  simp only [near, cov]

theorem Exchanging.attempt {s u : State} {x : LinkNo} (k : Exchanging x s u) :
    rankedNeighbours u x = rankedNeighbours s x ∧
      firstAdmitted u x (rankedNeighbours u x) = firstAdmitted s x (rankedNeighbours s x) := by
  have ranked : rankedNeighbours u x = rankedNeighbours s x :=
    ranked_congr (by rw [k.frame]) (by rw [k.frame]) (by rw [k.frame])
  refine ⟨ranked, ?_⟩
  rw [ranked]
  unfold firstAdmitted
  have search : ∀ h, targetSearch u x h = targetSearch s x h :=
    targetSearch_congr (by rw [k.frame]) (by rw [k.frame]) (by rw [k.frame]) k.period k.phase
  simp only [search]

end Sys2Proof.Machine
end

section
/-! The exchange of a link whose forced attempt is made again at its settlement, or whose loss unplaces it (R76, R119, log
entries 12 and 26); with it O12 is settled. -/

namespace Sys2Proof.Machine

/-! ## Any settlement of the link's last cell -/

section
variable {s : State} {o : OpenSlot} {h : HeadNo} {x : LinkNo} {role : Role} (crane : LastCraneCell s o h x role)
include crane

/-- Whatever the result, the slot close settles the exchange and the handover step follows (R97). -/
theorem LastCraneCell.settles (opened : (s.link x).mode ≠ .closed) (single : completes o.record s x role h = false) :
    ∃ e u, Exchanging x (slotEnded s) u ∧ closeExchange o.record x (slotEnded s) = settleHandover o.time x e u := by
  have last := crane.lastTurn opened
  cases judged : judge o.record (slotEnded s) x h (o.record.entries.get h) with
  | inr up =>
    have frame := (statusTaken o.time x up.status (heardState s x up)).frame
    have link := (statusTaken o.time x up.status (heardState s x up)).link
    have taken : successTaken o.record x role h up (slotEnded s) = takeStatus o.time x up.status (heardState s x up) :=
      if_neg (by rw [show completes o.record (slotEnded s) x role h = false from single]; decide)
    have period : ((takeStatus o.time x up.status (heardState s x up)).link x).period = (s.link x).period := by
      rw [link]
      rfl
    have phase : ((takeStatus o.time x up.status (heardState s x up)).link x).phase = (s.link x).phase := by
      rw [link]
      rfl
    refine ⟨_, _, ?_, closeExchange_heard last judged⟩
    refine Exchanging.trans ?_ (tuned_outcomeTaken ..).toExchanging
    rw [taken]
    refine ⟨?_, ?_, ?_⟩
    · rw [frame]
      rfl
    · exact period
    · exact phase
  | inl kind =>
    have result : judgeCell o.record x role h (slotEnded s) = (slotEnded s).setExch x { s.exch x with
        best := some (furthest (s.exch x).best kind) } := by
      unfold judgeCell
      rw [judged]
      simp only [frameExch_current x (slotEnded s) last.current, setFrameExch_current x (slotEnded s) last.current]
      rfl
    have closed := unclosedCell_judged last
    have turn := closeExchange_turn last
    rw [result] at closed turn
    have settles := settleAtClose_settles (x := x) (kind := furthest (s.exch x).best kind) last.current
      (exch_setExch_same x { s.exch x with best := some (furthest (s.exch x).best kind) } (slotEnded s)) rfl last.settled
      closed
    refine ⟨_, _, ?_, turn.trans settles⟩
    refine Exchanging.trans ?_ (tuned_outcomeTaken ..).toExchanging
    exact ⟨rfl, rfl, rfl⟩

end

/-! ## The attempt made again -/

section
variable {s c : State} {o : OpenSlot} {h : HeadNo} {x : LinkNo} {role : Role} {w : Handover}

/-- R48: the rest of the slot close measures the link's window on the head of the cell. -/
theorem closeRest_measured (crane : LastCraneCell s o h x role) (record : c.record x = some w)
    (k : w.state = .dual ∨ w.forced = true) (fresh : (c.exch x).opened = false) (service : inService c h = true) :
    (closeRest o h x c).resv x = c.resv x ∧ (closeRest o h x c).record x =
      some (measured c.cov.settings.filter (levelOf (o.entries.get h)) h w) := by
  obtain ⟨resv, v, found, kept, -⟩ := closeRest_kept crane.only.current.1 crane.only.slot.2 h record k
  refine ⟨resv, ?_⟩
  rw [measureHead_taken (x := x) (by rw [crane.cell]; rfl) c crane.only.current.1 crane.only.awaited.symm service fresh,
    State.record_setRecord_same, record] at kept
  rw [found, ← kept]
  rfl

theorem attemptForced_hp (x : LinkNo) (s : State) : (attemptForced x s).hp = s.hp := by
  unfold attemptForced
  dsimp only
  split <;> rfl

end

/-! ## The unplacing instead (R76, R118) -/

section
variable {t : Time} {x : LinkNo} {s : State}

theorem enterLost_values (t : Time) (x : LinkNo) (s : State) : ((enterLost t x s).link x).health = .lost ∧
    ((enterLost t x s).link x).score = 255 ∧ ((enterLost t x s).link x).recovery = 0 := by
  have aborts : ∀ u, ((abortTest t x u).link x).health = (u.link x).health ∧
      ((abortTest t x u).link x).score = (u.link x).score ∧
      ((abortTest t x u).link x).recovery = (u.link x).recovery := by
    intro u
    unfold abortTest
    split
    · rw [raiseCrane_port]
      rw [show ∀ (v : State) (c : ControlPort), State.link { v with cp := c } x = v.link x from fun _ _ => rfl,
        updateLink, State.link_setLink_same]
      exact ⟨rfl, rfl, rfl⟩
    · exact ⟨rfl, rfl, rfl⟩
  have graded := outcome_graded t (s := s) (x := x) (l := { s.link x with score := 255, recovery := 0 }) .lost rfl rfl rfl
  obtain ⟨health, score, recovery⟩ := aborts (setHealth t x .lost (s.setLink x { s.link x with score := 255, recovery := 0 }))
  rw [graded.link] at health score recovery
  rw [enterLost_eq]
  exact ⟨health, score, recovery⟩

/-- R34, R65: after the release of both reservations a head that still drains is still named. -/
theorem releaseAll_draining {d : HeadNo} (serving : servingHead s x = some d)
    (k : ((releaseAll t x s).head d).state = .draining) : naming (releaseAll t x s) d ≠ [] := by
  obtain ⟨p, primary, rfl⟩ := Option.map_eq_some_iff.mp serving
  have first : ((releasePrimary t x s).head p.head).state = .draining → naming (releasePrimary t x s) p.head ≠ [] := by
    rw [releasePrimary_eq, primary]
    exact testDrain_draining
  rw [releaseAll] at k ⊢
  have step := (handling_releaseTarget (fun _ => True) t x (releasePrimary t x s)).heads p.head trivial
  rw [releaseTarget_eq] at k step ⊢
  split at k
  · exact first k
  · rename_i q target
    rw [target] at step
    by_cases same : q.head = p.head
    · rw [← same] at k ⊢
      exact testDrain_draining k
    · rcases step.record with kept | ⟨-, drained, -⟩
      · intro bare
        refine first (kept ▸ k) (naming_eq_nil.mpr fun y role r holds => ?_)
        have other := naming_eq_nil.mp bare y role r
        rw [released_resv] at other
        by_cases own : x = y
        · subst own
          rw [if_pos rfl] at other
          cases role with
          | primary => exact other holds
          | target =>
            rw [show ((releasePrimary t x s).resv x).of .target = some q from target] at holds
            cases holds
            exact same
        · rw [if_neg own] at other
          exact other holds
      · rw [drained] at k
        cases k

/-- What an unplacing leaves of its link: no reservation, an empty window, LOST, with CRANE raised; beside it the releases
act alone (R76). -/
structure Unplaced (t : Time) (x : LinkNo) (w : Handover) (s u : State) : Prop where
  link : (u.link x).health = .lost ∧ (u.link x).score = 255 ∧ (u.link x).recovery = 0
  resv : u.resv x = ⟨none, none⟩
  record : u.record x = some w.emptyWindow
  seen : CraneSeen u x
  fs : u.fs = (releaseAll t x s).fs
  hp : u.hp = (releaseAll t x s).hp

theorem unplaced_unplace {w : Handover} (record : s.record x = some w) : Unplaced t x w s (unplace t x s) := by
  obtain ⟨v, first, beside⟩ := record_releasePrimary t record
  obtain ⟨v', found, beside'⟩ := record_releaseTarget t first
  have empty : v'.emptyWindow = w.emptyWindow := by
    rw [beside.trans beside']
    rfl
  have resv := releaseAll_resv t x s x
  rw [if_pos rfl] at resv
  have released : updateRecord x Handover.emptyWindow (releaseAll t x s) =
      (releaseAll t x s).setRecord x (some w.emptyWindow) := by
    rw [updateRecord_eq (s := releaseAll t x s) (w := v') found, empty]
  have seen : CraneSeen (unplace t x s) x := craneSeen_raiseCrane ..
  have values := enterLost_values t x ((releaseAll t x s).setRecord x (some w.emptyWindow))
  have frame := (tuned_enterLost t x ((releaseAll t x s).setRecord x (some w.emptyWindow))).frame
  rw [unplace, released] at seen ⊢
  generalize enterLost t x _ = e at seen values frame ⊢
  refine ⟨?_, ?_, ?_, seen, ?_, ?_⟩
  · rw [raiseCrane_port]
    exact values
  · rw [raiseCrane_port, frame]
    exact resv
  · rw [raiseCrane_port, frame]
    exact State.record_setRecord_same ..
  · rw [raiseCrane_port, frame]
    rfl
  · rw [raiseCrane_port, frame]
    rfl

end

section
variable {c : State} {o : OpenSlot} {h : HeadNo} {x : LinkNo} {w : Handover} (record : c.record x = some w)
  (empty : w.emptyWindow = w)
include record empty

/-- R47: an empty window has no head to measure. -/
theorem record_measureHead_empty (r : SlotRecord) : (measureHead r h c).record x = some w := by
  have centre : w.centre = none := by rw [← empty]; rfl
  have unmeasured : ∀ k g level, w.measure k g level = w := by
    intro k g level
    rw [measure_eq, measured, centre]
  unfold measureHead
  dsimp only
  split
  · rename_i y level _ _
    split
    · exact record
    · by_cases own : y = x
      · subst own
        rw [updateRecord_eq record, State.record_setRecord_same, unmeasured]
      · exact (State.record_setRecord_other c _ own).trans record
  · exact record

/-- R53, R103: the evaluation finds an unplaced link as it leaves it. -/
theorem evaluateLink_empty (lost : (c.link x).health = .lost) (r : SlotRecord) :
    evaluateLink r x c = c ∨ evaluateLink r x c = c.setRecord x (some w) := by
  have settled : w.state = .settled ∧ w.forced = false ∧
      { w with candidate := none, trigger := 0, state := .settled } = w := by
    rw [← empty]
    exact ⟨rfl, rfl, rfl⟩
  obtain ⟨state, unforced, same⟩ := settled
  rw [evaluateLink, record]
  dsimp only
  split
  · exact .inl rfl
  · split
    · exact .inl rfl
    · rw [coverLink_lost record (by rw [state]; decide) unforced lost, same]
      exact .inr rfl

theorem closeRest_empty (current : o.stale = false) (early : o.time.slot.1 < 23) (lost : (c.link x).health = .lost) :
    (closeRest o h x c).record x = some w ∧ (closeRest o h x c).fs.resv = c.fs.resv ∧ (closeRest o h x c).hp = c.hp ∧
      (closeRest o h x c).reg = c.reg ∧ (closeRest o h x c).cp = c.cp := by
  have measured := record_measureHead_empty (h := h) record empty o.record
  have frame := measureHead_frame o.record h c
  have still : ((measureHead o.record h c).link x).health = .lost := by rw [frame]; exact lost
  rw [closeRest, advanceSlot_current current early]
  rcases evaluateLink_empty measured empty still o.record with k | k
  · rw [k]
    exact ⟨measured, by rw [frame], by rw [frame], by rw [frame], by rw [frame]⟩
  · rw [k]
    exact ⟨State.record_setRecord_same .., by rw [State.setRecord_fs, frame], by rw [State.setRecord_hp, frame],
      by rw [State.setRecord_reg, frame], by rw [State.setRecord_cp, frame]⟩

end

/-! ## A forced CANDIDATE on a head that drains (R119) -/

/-- The slot close of a link's last cell, the link being a forced CANDIDATE of record `w` on head `d`, which drains. -/
structure ForcedTurn (s : State) (o : OpenSlot) (h : HeadNo) (x : LinkNo) (role : Role) (w : Handover) (d : HeadNo) :
    Prop where
  crane : LastCraneCell s o h x role
  opened : (s.link x).mode ≠ .closed
  service : inService s h = true
  record : s.record x = some w
  state : w.state = .candidate
  forced : w.forced = true
  centre : w.centre = some d
  serving : servingHead s x = some d
  draining : (s.head d).state = .draining

section
variable {s : State} {o : OpenSlot} {h : HeadNo} {x : LinkNo} {role : Role} {w : Handover} {d : HeadNo}
  (turn : ForcedTurn s o h x role w d)
include turn

/-- Log entry 26: the link is unplaced where the outcome leaves it in LOST, else it makes its attempt. -/
theorem ForcedTurn.step : ∃ u, Exchanging x (slotEnded s) u ∧ u.record x = some w ∧
    closeExchange o.record x (slotEnded s) = if (u.link x).health = .lost then unplace o.time x u else attemptForced x u := by
  have single : completes o.record s x role h = false := by
    rw [completes, turn.record]
    simp [turn.state]
  obtain ⟨e, u, exchanging, closes⟩ := turn.crane.settles turn.opened single
  have record : u.record x = some w := by
    rw [exchanging.frame]
    exact turn.record
  refine ⟨u, exchanging, record, ?_⟩
  rw [closes, settleHandover, record]
  dsimp only
  rw [turn.state]
  exact if_pos turn.forced

theorem ForcedTurn.closes_link : ((closeSlot s).link x) = (closeExchange o.record x (slotEnded s)).link x := by
  rw [turn.crane.closes]
  exact (closeRest_stands turn.crane.only.current.1 turn.crane.only.slot.2 h x _).1.link x

/-- R119, log entry 12: the attempt, with the qualities from before the measurement. -/
theorem ForcedTurn.attempts (kept : ((closeSlot s).link x).health ≠ .lost) :
    ∃ u, Exchanging x (slotEnded s) u ∧ u.record x = some w ∧ ∀ v, (attemptForced x u).record x = some v → v.state = .dual ∨ v.forced = true →
      (closeSlot s).resv x = (attemptForced x u).resv x ∧ (closeSlot s).record x =
        some (measured s.cov.settings.filter (levelOf (o.entries.get h)) h v) := by
  obtain ⟨u, exchanging, own, step⟩ := turn.step
  rw [turn.closes_link] at kept
  have elsewhere := elsewhere_closeExchange x (slotEnded s) o.record
  have closes := turn.crane.closes
  by_cases lost : (u.link x).health = .lost
  · rw [step, if_pos lost, (unplaced_unplace own).link.1] at kept
    exact absurd rfl kept
  · rw [if_neg lost] at step
    rw [step] at closes elsewhere
    refine ⟨u, exchanging, own, fun v found k => ?_⟩
    have service : inService (attemptForced x u) h = true := by
      rw [inService, State.head, attemptForced_hp, exchanging.frame]
      exact turn.service
    obtain ⟨resv, record⟩ := closeRest_measured turn.crane found k ((elsewhere.opened x).trans turn.crane.fresh.1) service
    rw [← closes, elsewhere.settings] at record
    rw [← closes] at resv
    exact ⟨resv, record⟩

/-- R119: the attempt leads into DUAL onto what the link finds, or leaves a forced CANDIDATE, counted as blocked. -/
theorem ForcedTurn.attempt_outcome (kept : ((closeSlot s).link x).health ≠ .lost) :
    (∀ p, Chosen s x d p → (closeSlot s).resv x = { s.resv x with target := some p } ∧ (closeSlot s).record x =
      some (measured s.cov.settings.filter (levelOf (o.entries.get h)) h
        { w with candidate := some p.head, state := .dual, dual := 0, forced := true })) ∧
    (NoChoice s x d → (closeSlot s).resv x = s.resv x ∧ (closeSlot s).record x =
      some (measured s.cov.settings.filter (levelOf (o.entries.get h)) h
        { w with candidate := (rankedNeighbours s x).head?.map (·.1), blocked := bump w.blocked })) := by
  obtain ⟨u, exchanging, own, closes⟩ := turn.attempts kept
  obtain ⟨ranked, admitted⟩ := exchanging.attempt
  have same : rankedNeighbours (slotEnded s) x = rankedNeighbours s x := rfl
  have held : u.resv x = s.resv x := by
    rw [exchanging.frame]
    rfl
  refine ⟨fun p chosen => ?_, fun bare => ?_⟩
  · have found := admitted.trans (firstAdmitted_chosen (s := s) turn.record turn.centre chosen)
    obtain ⟨resv, record⟩ := attemptForced_found own found
    obtain ⟨resv', record'⟩ := closes _ record (.inl rfl)
    exact ⟨by rw [resv', resv, held], record'⟩
  · have none := admitted.trans (firstAdmitted_none (s := s) turn.record turn.centre bare)
    have blocked := attemptForced_blocked own none
    have unchanged : ({ w with
        candidate := (rankedNeighbours u x).head?.map (·.1), state := .candidate, forced := true
        blocked := bump w.blocked } : Handover) =
        { w with candidate := (rankedNeighbours s x).head?.map (·.1), blocked := bump w.blocked } := by
      rw [ranked, same, ← turn.state, ← turn.forced]
    rw [unchanged] at blocked
    have record := State.record_setRecord_same u x (some { w with
      candidate := (rankedNeighbours s x).head?.map (·.1), blocked := bump w.blocked })
    rw [← blocked] at record
    obtain ⟨resv', record'⟩ := closes _ record (.inr turn.forced)
    refine ⟨?_, record'⟩
    rw [resv', blocked, ← held]
    rfl

/-- R76, R118: the link is unplaced, its window empty, and a drain that this completes is complete. -/
theorem ForcedTurn.loses (lost : ((closeSlot s).link x).health = .lost) :
    ((closeSlot s).resv x = ⟨none, none⟩ ∧ ((closeSlot s).link x).score = 255 ∧ ((closeSlot s).link x).recovery = 0 ∧
      CraneSeen (closeSlot s) x ∧ (closeSlot s).record x = some w.emptyWindow) ∧
    (naming (closeSlot s) d = [] → ((closeSlot s).head d).state = .off ∧ ((closeSlot s).head d).drainTimer = 0 ∧
      ((closeSlot s).head d).drainOutcome = .completed ∧ HeadSeen (closeSlot s) d ∧
      ∀ v, ((closeSlot s).unit v).serving ≠ some d) ∧
    (naming (closeSlot s) d ≠ [] → ((closeSlot s).head d).state = .draining) := by
  obtain ⟨u, exchanging, own, step⟩ := turn.step
  have head := (handling_closeExchange (fun _ => True) x (slotEnded s) o.record).heads d trivial
  have link := turn.closes_link
  have closes := turn.crane.closes
  by_cases gone : (u.link x).health = .lost
  · have left := unplaced_unplace (t := o.time) own
    rw [if_pos gone] at step
    rw [step] at head link closes
    generalize unplace o.time x u = c at left head link closes
    obtain ⟨record, resv, hp, reg, cp⟩ := closeRest_empty (h := h) left.record rfl turn.crane.only.current.1
      turn.crane.only.slot.2 left.link.1
    rw [← closes] at record resv hp reg cp
    have serving : servingHead u x = some d := by
      rw [exchanging.frame]
      exact turn.serving
    have stillNamed : (c.head d).state = .draining → naming c d ≠ [] := by
      rw [State.head, left.hp, naming_congr (s := releaseAll o.time x u) (by rw [left.fs])]
      exact releaseAll_draining serving
    generalize closeSlot s = t at lost link record resv hp reg cp
    have names : naming t d = naming c d := naming_congr resv d
    have same : t.head d = c.head d := by rw [State.head, hp]; rfl
    refine ⟨⟨?_, ?_, ?_, ?_, record⟩, fun bare => ?_, fun named => ?_⟩
    · rw [State.resv, resv]
      exact left.resv
    · rw [link]
      exact left.link.2.1
    · rw [link]
      exact left.link.2.2
    · exact (Raising.of_cp cp).craneSeen left.seen
    · rw [names] at bare
      rcases head.record with kept | ⟨-, drained, done⟩
      · exact absurd bare (stillNamed (by rw [kept]; exact turn.draining))
      · rw [same, drained]
        refine ⟨rfl, rfl, rfl, (OnlyRaises.of_cp cp).headSeen done.seen, fun v => ?_⟩
        rw [State.unit, reg]
        exact done.unserved v
    · rw [names] at named
      rw [same, head.stays named]
      exact turn.draining
  · rw [if_neg gone] at step
    rw [link, step, (stands_attemptForced x u).link x] at lost
    exact absurd lost gone

end

end Sys2Proof.Machine

open Sys2Proof Sys2Proof.Machine

/-- Settles O12: by mode and health where no attempt follows the outcome, and by what the attempt or the unplacing leaves. -/
theorem otherExchangesSettle : Obligations.OtherExchangesSettle := by
  refine ⟨fun s o h x role kind latest returned crane ends opened unforced => ?_,
    fun s o h x role w d level crane opened service record state forced centre serving draining hlevel => ?_⟩
  · obtain ⟨t, l, event, link, untested, tested⟩ := otherExchange_settles crane ends opened unforced
    have recovery : l.recovery = (s.link x).recovery := by rw [link]
    refine ⟨t, l, event, link, fun noTest => ?_, fun p n errors mode test fresh fit low next counted => ?_⟩
    · obtain ⟨lost, recovers, recovered, relapses⟩ := untested noTest
      exact ⟨lost, fun k => ⟨recovers k, recovered k, relapses k⟩⟩
    · obtain ⟨last, alive, dies⟩ := tested p n errors mode test fresh fit next (by rw [counted]; rfl)
      refine ⟨fun done => ?_, fun more below => ?_, fun more full => dies more full⟩
      · obtain ⟨seen, left⟩ := last done
        refine ⟨seen, ?_⟩
        rw [left, ← recovery]
        rfl
      · rw [alive more (by omega), Link.graded, if_neg (by omega)]
  · have turn : ForcedTurn s o h x role w d :=
      ⟨crane, opened, service, record, state, forced, centre, serving, draining⟩
    rw [hlevel]
    refine ⟨closeSlot s, whileRunning_running crane.only.running, fun kept => ?_, fun lost => ?_⟩
    · obtain ⟨chosen, bare⟩ := turn.attempt_outcome kept
      refine ⟨chosen, fun none => ?_⟩
      obtain ⟨resv, blocked⟩ := bare none
      exact ⟨resv, _, blocked, fun g first => ranked_first record centre first,
        fun empty => ranked_empty record centre empty⟩
    · obtain ⟨⟨resv, score, recovery, seen, window⟩, done, named⟩ := turn.loses lost
      exact ⟨resv, score, recovery, seen, window, done, named⟩
end

section
/-! The exchange of a link whose only CRANE cell of the frame closes without a burst, among whatever else the slot carries
(R97, R102). -/

namespace Sys2Proof.Machine

/-- On the way from `s` to `u` other parts of a slot close have acted: link `x` keeps record, exchange state and handover
state, no CRANE cell of it appears, and air time stands. -/
structure Untouched (x : LinkNo) (s u : State) : Prop where
  link : u.link x = s.link x
  exch : u.exch x = s.exch x
  stage : (u.record x).map Handover.stage = (s.record x).map Handover.stage
  cells : ∀ g sl q, u.cell g sl = .crane x q → s.cell g sl = .crane x q
  now : u.fs.now = s.fs.now
  started : u.fs.slotStarted = s.fs.slotStarted
  idle : s.hp.openSlot = none → u.hp.openSlot = none

namespace Untouched

variable {x : LinkNo} {s u v : State}

theorem refl (x : LinkNo) (s : State) : Untouched x s s := ⟨rfl, rfl, rfl, fun _ _ _ => id, rfl, rfl, id⟩

theorem trans (a : Untouched x s u) (b : Untouched x u v) : Untouched x s v where
  link := b.link.trans a.link
  exch := b.exch.trans a.exch
  stage := b.stage.trans a.stage
  cells g sl q k := a.cells g sl q (b.cells g sl q k)
  now := b.now.trans a.now
  started := b.started.trans a.started
  idle k := b.idle (a.idle k)

end Untouched

/-- The turn of another link at a slot close (R94 to R97). -/
theorem untouched_closeExchange {x y : LinkNo} (ne : y ≠ x) (r : SlotRecord) (s : State) :
    Untouched x s (closeExchange r y s) := by
  have elsewhere := elsewhere_closeExchange y s r
  have handling := handling_closeExchange (fun _ => True) y s r
  refine ⟨elsewhere.link x ne.symm, elsewhere.exch x ne.symm, elsewhere.stage x ne.symm,
    fun g sl q => elsewhere.cells g sl x q, ?_, ?_, handling.idle⟩
  · rw [handling.fs]
  · rw [handling.fs]

/-- The counts of the slot and the Registry, which act before the links (R41, R42, R127). -/
theorem untouched_registry (o : OpenSlot) (x : LinkNo) (s : State) :
    Untouched x s (registryTakes o.record (countClosed o s)) := by
  rw [(registryFrame_registryTakes (countClosed o s) o.record).frame, countClosed_frame]
  exact ⟨rfl, rfl, rfl, fun _ _ _ => id, rfl, rfl, id⟩

/-- Measurements and evaluations leave the links' records (R48, R53). -/
theorem links_measured (r : SlotRecord) (s : State) :
    (forLinks (evaluateLink r) (forHeads (measureHead r) s)).cle.links = s.cle.links := by
  have measured : (forHeads (measureHead r) s).cle.links = s.cle.links :=
    forHeads_keeps (P := fun u => u.cle.links = s.cle.links) (fun h u k => by rw [measureHead_frame]; exact k) rfl
  refine forLinks_keeps (P := fun u => u.cle.links = s.cle.links) (fun y u k => ?_) measured
  rw [← k]
  unfold evaluateLink
  split
  · rfl
  · split
    · rfl
    · split
      · rfl
      · exact coverLink_links y _ _ u

theorem link_measured (r : SlotRecord) (s : State) (x : LinkNo) :
    (forLinks (evaluateLink r) (forHeads (measureHead r) s)).link x = s.link x := congrArg (·.get x) (links_measured r s)

theorem link_advanceSlot (o : OpenSlot) (s : State) (x : LinkNo) : (advanceSlot o s).link x = s.link x := by
  rw [advanceSlot_frame]
  rfl

/-- The heads of a record that carries one CRANE cell of the link. -/
theorem craneHeads_alone {o : OpenSlot} {h : HeadNo} {x : LinkNo} {role : Role}
    (cell : (o.entries.get h).cell = .crane x role) (alone : ∀ g q, g ≠ h → (o.entries.get g).cell ≠ .crane x q)
    (q : Role) : craneHeads o.record x q = if q = role then [h] else [] := by
  have here : ∀ g, ((o.record.entries.get g).cell == .crane x q) = (decide (q = role) && (g == h)) := by
    intro g
    rw [record_entry, close_cell, Bool.eq_iff_iff, Bool.and_eq_true, beq_iff_eq, decide_eq_true_iff, beq_iff_eq]
    constructor
    · intro k
      by_cases own : g = h
      · subst own
        rw [cell] at k
        cases k
        exact ⟨rfl, rfl⟩
      · exact absurd k (alone g q own)
    · rintro ⟨rfl, rfl⟩
      exact cell
  have single : ∀ h : HeadNo, (List.finRange 12).filter (· == h) = [h] := by decide
  rw [craneHeads, List.filter_congr fun g _ => here g]
  by_cases own : q = role
  · rw [if_pos own, decide_eq_true own]
    exact single h
  · rw [if_neg own, decide_eq_false own]
    exact List.filter_false _

/-- R29, R41: an entry without a return closes without a burst. -/
theorem close_silent {e : Entry} (none : e.ret = none) (level : Byte) (bytes : List Byte) :
    e.close.ret ≠ some (⟨.decoded, level, bytes⟩, .head) := by
  obtain ⟨c, awaited, ret, out⟩ := e
  subst none
  cases c <;> cases out <;> cases awaited <;> nofun

/-- The failure of the only CRANE cell of a link in STANDBY or SERVICE, SETTLED and unforced, within GOOD (R97, R102). -/
theorem closeExchange_missed {r : SlotRecord} {h : HeadNo} {x : LinkNo} {u : State} (turn : LastTurn r h x .primary u)
    (silent : ∀ level bytes, (r.entries.get h).ret ≠ some (⟨.decoded, level, bytes⟩, .head))
    (untested : (u.link x).mode ≠ .test) (good : (u.link x).health = .good) (low : (u.link x).score ≤ 87)
    (settled : (u.record x).map Handover.stage = some (.settled, false)) (fresh : (u.exch x).best = none) :
    (closeExchange r x u).link x = { (u.link x).told .noReply with score := (u.link x).score + 8 } := by
  rw [closeExchange_failed turn fresh (judge_noReply silent)]
  generalize hv : (u.setExch x _).setExch x _ = v
  have same : v.link x = u.link x ∧ v.record x = u.record x := by
    rw [← hv]
    exact ⟨rfl, rfl⟩
  obtain ⟨link, record⟩ := same
  have outcome := outcomeTaken_scored (t := r.time) (e := { u.exch x with best := some .noReply }) (kind := .noReply)
    (s := v) (x := x) (by rw [link]; exact untested) (by rw [link, good]; exact .inl rfl)
  have score : nextScore (u.link x).score (CellResult.noReply == .success) = (u.link x).score + 8 := by
    show min 255 ((u.link x).score + 8) = _
    omega
  rw [link, score] at outcome
  have idle : ∀ c : State, c.record x = u.record x → settleHandover r.time x { u.exch x with best := some .noReply } c = c := by
    intro c k
    obtain ⟨w, found, stage⟩ := Option.map_eq_some_iff.mp settled
    have state : w.state = .settled := congrArg Prod.fst stage
    rw [settleHandover, k, found]
    dsimp only
    rw [state]
  rw [idle _ (outcome.record.trans record), outcome.link, Link.graded, if_neg (by omega), healthOf, if_pos (by omega)]
  rw [← show ((u.link x).told .noReply).health = .good from good]

end Sys2Proof.Machine

open Sys2Proof Sys2Proof.Machine

/-- Settles O10: the other links' turns leave the link alone, and its own counts the failure. -/
theorem failedExchangeIsCounted : Obligations.FailedExchangeIsCounted := by
  intro s o h x w running inProgress current time slot early started cell alone only awaited silent mode good low record
    settled unforced fresh best unsettled
  refine ⟨closeSlot s, whileRunning_running running, ?_⟩
  have begun := untouched_registry o x (slotEnded s)
  rw [closeSlot_eq inProgress, recordTaken_record slot, frameClosed_early early, handOn_eq, handOnLinks, link_advanceSlot,
    link_measured]
  generalize registryTakes o.record (countClosed o (slotEnded s)) = b at begun
  obtain ⟨u, before, after⟩ := forLinks_around (R := Untouched x) (.refl x) .trans x (f := closeExchange o.record)
    (fun y ne s => untouched_closeExchange ne o.record s) b
  have ready := begun.trans before
  have link : u.link x = s.link x := ready.link
  have exch : u.exch x = s.exch x := ready.exch
  have turn : LastTurn o.record h x .primary u := by
    refine ⟨current, craneHeads_alone cell fun g q ne => alone g q ne, ?_, ?_, ?_, fun g sl q k => ?_, ?_, ready.idle rfl⟩
    · rw [link]
      rcases mode with e | e <;> rw [e] <;> decide
    · rw [exch, fresh]
    · rw [exch, unsettled]
    · rw [ready.now, (only g sl q (ready.cells g sl q k)).2, time]
      exact le_refl _
    · rw [ready.started]
      exact started
  have missed := closeExchange_missed turn (by rw [record_entry]; exact close_silent silent)
    (by rw [link]; rcases mode with e | e <;> rw [e] <;> decide) (by rw [link]; exact good) (by rw [link]; exact low)
    (by rw [ready.stage, show (slotEnded s).record x = some w from record, Option.map_some, Handover.stage, settled, unforced])
    (by rw [exch, best])
  rw [after.link, missed, link]
  rfl
end
